-- ==== Sys2Proof/Word.lean ====
section
/-! DEFINITION. The widths HCADEC computes with (spec/00_scope.md R6, R8): bytes, 32-bit host words and
binary32 bit patterns; and the ranges of a channel, a subframe and a coefficient index (R5). -/

namespace Sys2Proof

/-- One byte of a table or of the block buffer. -/
abbrev Byte := BitVec 8

/-- One host word: a register, a PCMBUF word, a host address (spec/20_memory.md R59). -/
abbrev Word := BitVec 32

/-- The bit pattern of an IEEE 754 binary32 value, sign in bit 31 (spec/00_scope.md R8). -/
abbrev F32 := BitVec 32

/-- A channel number, 0..MAX_CHANNELS-1 (spec/00_scope.md R5: MAX_CHANNELS = 16). -/
abbrev Chan := Fin 16

/-- A subframe number, 0..7 (spec/00_scope.md R5: SUBFRAMES = 8). -/
abbrev Sub := Fin 8

/-- A coefficient index, 0..127 (spec/00_scope.md R5: N = 128). -/
abbrev Idx := Fin 128

end Sys2Proof
end

