-- ==== Sys2Proof/Syntax.lean ====
section
/-! DEFINITION. The syntax of HCADEC: what the host can put on the bus, what the fixed decode sequence
issues, what stands in a block's bits, and `Instr`, one constructor per row of spec/opcode_table.json
(spec/00_scope.md R15). Operands that the bits do not hold (a channel, a coefficient index, a delta mode)
come from the place in the fixed sequence of spec/46_commands.md R167. -/

namespace Sys2Proof

/-- The host registers of spec/10_state.md section 2, in the order of their indices 0x00..0x14. -/
inductive Reg where
  | id | cmd | status | irqEn | faultInfo | bitPos | blocksDone | chType
  | channels | blockSize | r01 | r02 | r03 | r04 | r05 | r06 | r07 | r08 | r09
  | volume | pcmFormat
  deriving DecidableEq, Repr

/-- The direction of a host access, with the data of a write (spec/20_memory.md R60). -/
inductive Dir where
  | read
  | write (value : Word)
  deriving DecidableEq, Repr

/-- One host access: byte address, width in bits and direction. It is the whole encoding of a line of a
host program (spec/30_encoding.md R79, R104). -/
structure Access where
  addr : Word
  width : Nat
  dir : Dir
  deriving DecidableEq, Repr

/-- The place a code word's coefficient goes to: `SPEC[ch][i]` (spec/42_dequant.md R128). -/
structure Slot where
  ch : Chan
  i : Idx
  deriving DecidableEq, Repr

/-- The operations of the decoder step that have no bits: the fixed sequence of spec/46_commands.md R167
issues them. -/
inductive SeqOp where
  | descramble
  | blockStart
  | stage1 (ch : Chan)
  | dequant (ch : Chan) (sf : Sub)
  | hfr (ch : Chan)
  | intensity (ch : Chan) (sf : Sub)
  | synth (ch : Chan) (sf : Sub)
  | pcmOut
  deriving DecidableEq, Repr

/-- What the sequence expects next in the block's bits (spec/30_encoding.md section 2): it settles which
field or code word the bits at BITPOS are read as. -/
inductive Context where
  /-- The sync field (R83). -/
  | header
  /-- The two noise fields (R83). -/
  | noise
  /-- The mode field of a channel's side information (R85). -/
  | sfmode (ch : Chan)
  /-- What follows the mode field: nothing, raw scale factors, or the first value of delta mode (R85). -/
  | payload (ch : Chan) (mode : BitVec 3) (count : Nat)
  /-- The delta code of scale factor `i` (R87). -/
  | delta (ch : Chan) (i : Idx) (mode : BitVec 3)
  /-- The intensity field of a type-2 channel (R88). -/
  | intensity (ch : Chan)
  /-- The HFR scales of a type-0 or type-1 channel (R89). -/
  | hfrScales (ch : Chan) (groups : Nat)
  /-- The code word of a coefficient of resolution `res` (R90). -/
  | code (slot : Slot) (res : BitVec 4)
  /-- The last 16 bits of the block (R82). -/
  | checksum
  deriving DecidableEq, Repr

/-- Where an instruction comes from, and so what its encoding is: a host access, bits of the block (first
bit first) read in a context, or the fixed sequence, which needs no bits. -/
inductive Source where
  | access (a : Access)
  | stream (c : Context) (bits : List Bool)
  | sequencer (op : SeqOp)
  deriving DecidableEq, Repr

/-- The instructions of HCADEC, one constructor per row of spec/opcode_table.json, in its order. -/
inductive Instr where
  /-- NOP, CMD word 0x00 (spec/46_commands.md R162). -/
  | nop
  /-- RESET, CMD word 0x01 (R165). -/
  | reset
  /-- CONFIGURE, CMD word 0x02 (R163, R164). -/
  | configure
  /-- DECODE_BLOCK, CMD word 0x03 (R166); the decoder step of R167 follows when the decoder takes its turn. -/
  | decodeBlock
  /-- ACK, CMD word 0x04 (R168). -/
  | ack
  /-- RESERVED_CMD, every other CMD word (spec/30_encoding.md R81). -/
  | reservedCmd (word : Word)
  /-- REG_READ, a 32-bit read of a register other than CMD (R170). -/
  | regRead (r : Reg)
  /-- REG_WRITE, a 32-bit write of a config register or of IRQ_EN (R170). -/
  | regWrite (r : Reg) (value : Word)
  /-- ATH_READ (R171). -/
  | athRead (i : Idx)
  /-- ATH_WRITE (R171). -/
  | athWrite (i : Idx) (value : Byte)
  /-- CIPHER_READ (R171). -/
  | cipherRead (i : Fin 256)
  /-- CIPHER_WRITE (R171). -/
  | cipherWrite (i : Fin 256) (value : Byte)
  /-- BLOCKBUF_READ (R171). -/
  | blockbufRead (i : Fin 65535)
  /-- BLOCKBUF_WRITE (R171). -/
  | blockbufWrite (i : Fin 65535) (value : Byte)
  /-- PCMBUF_READ (R172). -/
  | pcmbufRead (w : Fin 16384)
  /-- BAD_ACCESS, every access that fails a check of spec/46_commands.md R169 step (2). -/
  | badAccess (a : Access)
  /-- DESCRAMBLE (spec/40_bitreader.md R105). -/
  | descramble
  /-- BLOCK_START (R111). -/
  | blockStart
  /-- STAGE1, side information and derivations of one channel (spec/41_side_info.md R115-R125). -/
  | stage1 (ch : Chan)
  /-- DEQUANT, stage 2 of a channel in a subframe (spec/42_dequant.md R128). -/
  | dequant (ch : Chan) (sf : Sub)
  /-- HFR, stage 3 of a channel (spec/43_reconstruct.md R134-R136). -/
  | hfr (ch : Chan)
  /-- INTENSITY, stage 4 of a channel in a subframe (R137, R138). -/
  | intensity (ch : Chan) (sf : Sub)
  /-- SYNTH, stage 5 of a channel in a subframe (spec/44_synthesis.md R141-R147). -/
  | synth (ch : Chan) (sf : Sub)
  /-- PCM_OUT (spec/45_pcm.md R150-R158). -/
  | pcmOut
  /-- SYNC, the block field sync:16 (spec/41_side_info.md R113). -/
  | sync (value : BitVec 16)
  /-- NOISE, the block fields noise_hi:9 noise_lo:7 (R114). -/
  | noise (hi : BitVec 9) (lo : BitVec 7)
  /-- SFMODE, the field sfmode:3 of a channel (R115). -/
  | sfmode (ch : Chan) (mode : BitVec 3)
  /-- SF_ZERO, the empty payload of mode 0 (R117). -/
  | sfZero (ch : Chan)
  /-- SF_RAW, the payload sf:6 x COUNT of modes 6 and 7 (R116). -/
  | sfRaw (ch : Chan) (values : List (BitVec 6))
  /-- SF_FIRST, first:6 of modes 1..5 (R118). -/
  | sfFirst (ch : Chan) (value : BitVec 6)
  /-- SF_DELTA, a delta code d:m other than all ones, for scale factor i (R118). -/
  | sfDelta (ch : Chan) (i : Idx) (mode : BitVec 3) (d : BitVec 5)
  /-- SF_ESCAPE, the delta code of m ones followed by sf:6, for scale factor i (R118). -/
  | sfEscape (ch : Chan) (i : Idx) (mode : BitVec 3) (value : BitVec 6)
  /-- INTENSITY_SET, eight intensity values of 4 bits, the first of them not 15 (R120). -/
  | intensitySet (ch : Chan) (values : List (BitVec 4))
  /-- INTENSITY_ALL15, the look-ahead 1111 that is not consumed (R120). -/
  | intensityAll15 (ch : Chan)
  /-- HFR_SCALE, hfr_scale:6 x R09 (R121). -/
  | hfrScale (ch : Chan) (values : List (BitVec 6))
  /-- BLOCK_CHECKSUM, the last 16 bits of the block, never read (spec/30_encoding.md R82). -/
  | blockChecksum (value : BitVec 16)
  /-- CODE_R0, the zero-width code of resolution 0, value 0 (spec/42_dequant.md R129). -/
  | codeR0 (slot : Slot)
  /-- CODE_R1_0, code `0`, value 0. -/
  | codeR1Zero (slot : Slot)
  /-- CODE_R1_P1, code `10`, value 1. -/
  | codeR1P1 (slot : Slot)
  /-- CODE_R1_M1, code `11`, value -1. -/
  | codeR1M1 (slot : Slot)
  /-- CODE_R2_0, code `00`, value 0. -/
  | codeR2Zero (slot : Slot)
  /-- CODE_R2_P1, code `01`, value 1. -/
  | codeR2P1 (slot : Slot)
  /-- CODE_R2_M1, code `10`, value -1. -/
  | codeR2M1 (slot : Slot)
  /-- CODE_R2_P2, code `110`, value 2. -/
  | codeR2P2 (slot : Slot)
  /-- CODE_R2_M2, code `111`, value -2. -/
  | codeR2M2 (slot : Slot)
  /-- CODE_R3_0, code `00`, value 0. -/
  | codeR3Zero (slot : Slot)
  /-- CODE_R3_P1, code `010`, value 1. -/
  | codeR3P1 (slot : Slot)
  /-- CODE_R3_M1, code `011`, value -1. -/
  | codeR3M1 (slot : Slot)
  /-- CODE_R3_P2, code `100`, value 2. -/
  | codeR3P2 (slot : Slot)
  /-- CODE_R3_M2, code `101`, value -2. -/
  | codeR3M2 (slot : Slot)
  /-- CODE_R3_P3, code `110`, value 3. -/
  | codeR3P3 (slot : Slot)
  /-- CODE_R3_M3, code `111`, value -3. -/
  | codeR3M3 (slot : Slot)
  /-- CODE_R4_0, code `000`, value 0. -/
  | codeR4Zero (slot : Slot)
  /-- CODE_R4_P1, code `001`, value 1. -/
  | codeR4P1 (slot : Slot)
  /-- CODE_R4_M1, code `010`, value -1. -/
  | codeR4M1 (slot : Slot)
  /-- CODE_R4_P2, code `011`, value 2. -/
  | codeR4P2 (slot : Slot)
  /-- CODE_R4_M2, code `100`, value -2. -/
  | codeR4M2 (slot : Slot)
  /-- CODE_R4_P3, code `101`, value 3. -/
  | codeR4P3 (slot : Slot)
  /-- CODE_R4_M3, code `110`, value -3. -/
  | codeR4M3 (slot : Slot)
  /-- CODE_R4_P4, code `1110`, value 4. -/
  | codeR4P4 (slot : Slot)
  /-- CODE_R4_M4, code `1111`, value -4. -/
  | codeR4M4 (slot : Slot)
  /-- CODE_R5_0, code `000`, value 0. -/
  | codeR5Zero (slot : Slot)
  /-- CODE_R5_P1, code `001`, value 1. -/
  | codeR5P1 (slot : Slot)
  /-- CODE_R5_M1, code `010`, value -1. -/
  | codeR5M1 (slot : Slot)
  /-- CODE_R5_P2, code `011`, value 2. -/
  | codeR5P2 (slot : Slot)
  /-- CODE_R5_M2, code `100`, value -2. -/
  | codeR5M2 (slot : Slot)
  /-- CODE_R5_P3, code `1010`, value 3. -/
  | codeR5P3 (slot : Slot)
  /-- CODE_R5_M3, code `1011`, value -3. -/
  | codeR5M3 (slot : Slot)
  /-- CODE_R5_P4, code `1100`, value 4. -/
  | codeR5P4 (slot : Slot)
  /-- CODE_R5_M4, code `1101`, value -4. -/
  | codeR5M4 (slot : Slot)
  /-- CODE_R5_P5, code `1110`, value 5. -/
  | codeR5P5 (slot : Slot)
  /-- CODE_R5_M5, code `1111`, value -5. -/
  | codeR5M5 (slot : Slot)
  /-- CODE_R6_0, code `000`, value 0. -/
  | codeR6Zero (slot : Slot)
  /-- CODE_R6_P1, code `001`, value 1. -/
  | codeR6P1 (slot : Slot)
  /-- CODE_R6_M1, code `010`, value -1. -/
  | codeR6M1 (slot : Slot)
  /-- CODE_R6_P2, code `0110`, value 2. -/
  | codeR6P2 (slot : Slot)
  /-- CODE_R6_M2, code `0111`, value -2. -/
  | codeR6M2 (slot : Slot)
  /-- CODE_R6_P3, code `1000`, value 3. -/
  | codeR6P3 (slot : Slot)
  /-- CODE_R6_M3, code `1001`, value -3. -/
  | codeR6M3 (slot : Slot)
  /-- CODE_R6_P4, code `1010`, value 4. -/
  | codeR6P4 (slot : Slot)
  /-- CODE_R6_M4, code `1011`, value -4. -/
  | codeR6M4 (slot : Slot)
  /-- CODE_R6_P5, code `1100`, value 5. -/
  | codeR6P5 (slot : Slot)
  /-- CODE_R6_M5, code `1101`, value -5. -/
  | codeR6M5 (slot : Slot)
  /-- CODE_R6_P6, code `1110`, value 6. -/
  | codeR6P6 (slot : Slot)
  /-- CODE_R6_M6, code `1111`, value -6. -/
  | codeR6M6 (slot : Slot)
  /-- CODE_R7_0, code `000`, value 0. -/
  | codeR7Zero (slot : Slot)
  /-- CODE_R7_P1, code `0010`, value 1. -/
  | codeR7P1 (slot : Slot)
  /-- CODE_R7_M1, code `0011`, value -1. -/
  | codeR7M1 (slot : Slot)
  /-- CODE_R7_P2, code `0100`, value 2. -/
  | codeR7P2 (slot : Slot)
  /-- CODE_R7_M2, code `0101`, value -2. -/
  | codeR7M2 (slot : Slot)
  /-- CODE_R7_P3, code `0110`, value 3. -/
  | codeR7P3 (slot : Slot)
  /-- CODE_R7_M3, code `0111`, value -3. -/
  | codeR7M3 (slot : Slot)
  /-- CODE_R7_P4, code `1000`, value 4. -/
  | codeR7P4 (slot : Slot)
  /-- CODE_R7_M4, code `1001`, value -4. -/
  | codeR7M4 (slot : Slot)
  /-- CODE_R7_P5, code `1010`, value 5. -/
  | codeR7P5 (slot : Slot)
  /-- CODE_R7_M5, code `1011`, value -5. -/
  | codeR7M5 (slot : Slot)
  /-- CODE_R7_P6, code `1100`, value 6. -/
  | codeR7P6 (slot : Slot)
  /-- CODE_R7_M6, code `1101`, value -6. -/
  | codeR7M6 (slot : Slot)
  /-- CODE_R7_P7, code `1110`, value 7. -/
  | codeR7P7 (slot : Slot)
  /-- CODE_R7_M7, code `1111`, value -7. -/
  | codeR7M7 (slot : Slot)
  /-- CODE_R8_ZERO, code `0000`, value 0. -/
  | codeR8Zero (slot : Slot)
  /-- CODE_R8_MAG, mag:4 sign:1 with mag not 0 (spec/30_encoding.md R97). -/
  | codeR8Mag (slot : Slot) (mag : BitVec 4) (sign : Bool)
  /-- CODE_R9_ZERO, code `00000`, value 0. -/
  | codeR9Zero (slot : Slot)
  /-- CODE_R9_MAG, mag:5 sign:1 with mag not 0 (spec/30_encoding.md R97). -/
  | codeR9Mag (slot : Slot) (mag : BitVec 5) (sign : Bool)
  /-- CODE_R10_ZERO, code `000000`, value 0. -/
  | codeR10Zero (slot : Slot)
  /-- CODE_R10_MAG, mag:6 sign:1 with mag not 0 (spec/30_encoding.md R97). -/
  | codeR10Mag (slot : Slot) (mag : BitVec 6) (sign : Bool)
  /-- CODE_R11_ZERO, code `0000000`, value 0. -/
  | codeR11Zero (slot : Slot)
  /-- CODE_R11_MAG, mag:7 sign:1 with mag not 0 (spec/30_encoding.md R97). -/
  | codeR11Mag (slot : Slot) (mag : BitVec 7) (sign : Bool)
  /-- CODE_R12_ZERO, code `00000000`, value 0. -/
  | codeR12Zero (slot : Slot)
  /-- CODE_R12_MAG, mag:8 sign:1 with mag not 0 (spec/30_encoding.md R97). -/
  | codeR12Mag (slot : Slot) (mag : BitVec 8) (sign : Bool)
  /-- CODE_R13_ZERO, code `000000000`, value 0. -/
  | codeR13Zero (slot : Slot)
  /-- CODE_R13_MAG, mag:9 sign:1 with mag not 0 (spec/30_encoding.md R97). -/
  | codeR13Mag (slot : Slot) (mag : BitVec 9) (sign : Bool)
  /-- CODE_R14_ZERO, code `0000000000`, value 0. -/
  | codeR14Zero (slot : Slot)
  /-- CODE_R14_MAG, mag:10 sign:1 with mag not 0 (spec/30_encoding.md R97). -/
  | codeR14Mag (slot : Slot) (mag : BitVec 10) (sign : Bool)
  /-- CODE_R15_ZERO, code `00000000000`, value 0. -/
  | codeR15Zero (slot : Slot)
  /-- CODE_R15_MAG, mag:11 sign:1 with mag not 0 (spec/30_encoding.md R97). -/
  | codeR15Mag (slot : Slot) (mag : BitVec 11) (sign : Bool)
  deriving DecidableEq, Repr

end Sys2Proof
end

