-- ==== Sys2Proof/Decode.lean ====
section
/-! DEFINITION. Decoding and encoding. A host access is decoded by its address, width and direction
(spec/20_memory.md R60, spec/46_commands.md R160, R169); the bits of a block are decoded in the context of
the place in the decode sequence (spec/30_encoding.md sections 2 and 3). The spec gives every access and
every bit pattern an instruction (RESERVED_CMD and BAD_ACCESS by name; R96, R97: "no bit pattern is
illegal"), so `decode` is total and refuses nothing. -/

namespace Sys2Proof

/-! ### Registers and the address map -/

/-- The index of a register (spec/10_state.md section 2). -/
def Reg.index : Reg → Nat
  | .id => 0x00
  | .cmd => 0x01
  | .status => 0x02
  | .irqEn => 0x03
  | .faultInfo => 0x04
  | .bitPos => 0x05
  | .blocksDone => 0x06
  | .chType => 0x07
  | .channels => 0x08
  | .blockSize => 0x09
  | .r01 => 0x0A
  | .r02 => 0x0B
  | .r03 => 0x0C
  | .r04 => 0x0D
  | .r05 => 0x0E
  | .r06 => 0x0F
  | .r07 => 0x10
  | .r08 => 0x11
  | .r09 => 0x12
  | .volume => 0x13
  | .pcmFormat => 0x14

/-- The register at an index; the indices 0x15..0x3FF are unassigned (spec/20_memory.md R61). -/
def Reg.ofIndex : Nat → Option Reg
  | 0x00 => some .id
  | 0x01 => some .cmd
  | 0x02 => some .status
  | 0x03 => some .irqEn
  | 0x04 => some .faultInfo
  | 0x05 => some .bitPos
  | 0x06 => some .blocksDone
  | 0x07 => some .chType
  | 0x08 => some .channels
  | 0x09 => some .blockSize
  | 0x0A => some .r01
  | 0x0B => some .r02
  | 0x0C => some .r03
  | 0x0D => some .r04
  | 0x0E => some .r05
  | 0x0F => some .r06
  | 0x10 => some .r07
  | 0x11 => some .r08
  | 0x12 => some .r09
  | 0x13 => some .volume
  | 0x14 => some .pcmFormat
  | _ => none

/-- The byte address of a register: 4 x index (spec/20_memory.md R61). -/
def Reg.addr (r : Reg) : Word := BitVec.ofNat 32 (4 * r.index)

/-- Every register but CMD can be read (spec/10_state.md section 2; R22). -/
def Reg.readable (r : Reg) : Bool := r != .cmd

/-- The config registers: writable in UNCONFIGURED only (spec/10_state.md section 2). -/
def Reg.config : Reg → Bool
  | .channels | .blockSize | .r01 | .r02 | .r03 | .r04 | .r05 | .r06 | .r07 | .r08 => true
  | .volume | .pcmFormat => true
  | .id | .cmd | .status | .irqEn | .faultInfo | .bitPos | .blocksDone | .chType | .r09 => false

/-- The registers a write stores to: the config registers and IRQ_EN (CMD stores nothing, R22). -/
def Reg.writable (r : Reg) : Bool := r.config || r == .irqEn

/-- ID and STATUS can be read even in BUSY (spec/20_memory.md R72). -/
def Reg.readableBusy (r : Reg) : Bool := r == .id || r == .status

/-- What a mapped address of the right width and alignment reaches (spec/20_memory.md R60). -/
inductive Target where
  | reg (r : Reg)
  | ath (i : Idx)
  | cipher (i : Fin 256)
  | blockbuf (i : Fin 65535)
  | pcmbuf (w : Fin 16384)
  deriving DecidableEq, Repr

/-- The address map with its width and alignment checks (spec/20_memory.md R60-R68): `none` where the
address is unmapped, the register index unassigned, the width wrong or a word misaligned. -/
def target (addr width : Nat) : Option Target :=
  if addr < 0x1000 then
    if width = 32 ∧ addr % 4 = 0 then (Reg.ofIndex (addr / 4)).map .reg else none
  else if h : 0x1000 ≤ addr ∧ addr < 0x1080 then
    if width = 8 then some (.ath ⟨addr - 0x1000, by omega⟩) else none
  else if h : 0x1100 ≤ addr ∧ addr < 0x1200 then
    if width = 8 then some (.cipher ⟨addr - 0x1100, by omega⟩) else none
  else if h : 0x10000 ≤ addr ∧ addr < 0x1FFFF then
    if width = 8 then some (.blockbuf ⟨addr - 0x10000, by omega⟩) else none
  else if h : 0x20000 ≤ addr ∧ addr < 0x30000 then
    if width = 32 ∧ addr % 4 = 0 then some (.pcmbuf ⟨(addr - 0x20000) / 4, by omega⟩) else none
  else none

/-- The BadAccess checks of spec/46_commands.md R169 step (2): unmapped or unassigned, wrong width,
misaligned, a write of a read-only register or of PCMBUF, a read of CMD. -/
def Access.bad (a : Access) : Bool :=
  match target a.addr.toNat a.width, a.dir with
  | none, _ => true
  | some (.reg r), .read => !r.readable
  | some (.reg r), .write _ => !(r.writable || r == .cmd)
  | some (.pcmbuf _), .write _ => true
  | some (.ath _), _ => false
  | some (.cipher _), _ => false
  | some (.blockbuf _), _ => false
  | some (.pcmbuf _), .read => false

/-- The reserved command words: bits[31:8] not 0, or OP above 0x04 (spec/30_encoding.md R81). -/
def reservedWord (x : Word) : Bool := decide (4 < x.toNat)

/-! ### Decoding host accesses -/

/-- The command words (spec/30_encoding.md R80, R81); the whole 32-bit word is compared. -/
def decodeCommand (x : Word) : Instr :=
  match x.toNat with
  | 0 => .nop
  | 1 => .reset
  | 2 => .configure
  | 3 => .decodeBlock
  | 4 => .ack
  | _ => .reservedCmd x

/-- The instruction of a host access (spec/30_encoding.md R79). An 8-bit write stores the low 8 bits of the
written value (spec/46_commands.md R171). -/
def decodeAccess (a : Access) : Instr :=
  match target a.addr.toNat a.width, a.dir with
  | none, _ => .badAccess a
  | some (.reg .cmd), .write x => decodeCommand x
  | some (.reg r), .read => if r.readable then .regRead r else .badAccess a
  | some (.reg r), .write v => if r.writable then .regWrite r v else .badAccess a
  | some (.ath i), .read => .athRead i
  | some (.ath i), .write v => .athWrite i (v.setWidth 8)
  | some (.cipher i), .read => .cipherRead i
  | some (.cipher i), .write v => .cipherWrite i (v.setWidth 8)
  | some (.blockbuf i), .read => .blockbufRead i
  | some (.blockbuf i), .write v => .blockbufWrite i (v.setWidth 8)
  | some (.pcmbuf w), .read => .pcmbufRead w
  | some (.pcmbuf _), .write _ => .badAccess a

/-! ### Decoding the bits of a block -/

/-- The value of a list of bits, first bit most significant (spec/40_bitreader.md R106). -/
def bitsValue (bits : List Bool) : Nat := bits.foldl (fun v b => 2 * v + b.toNat) 0

/-- The `n` bits of `v`, most significant first. -/
def msbBits (n v : Nat) : List Bool := (List.range n).map fun k => v.testBit (n - 1 - k)

/-- The `n`-bit field at offset `off` of the bits that remain up to BITLIMIT; a field that does not fit
reads as 0 (spec/40_bitreader.md R107). -/
def readBits (bits : List Bool) (off n : Nat) : Nat :=
  if bits.length < off + n then 0 else bitsValue ((bits.drop off).take n)

/-- MAXBITS (spec/30_encoding.md R93): the width peeked for a coefficient of resolution `s`. -/
def maxBits (s : Nat) : Nat := [0, 2, 3, 3, 4, 4, 4, 4, 5, 6, 7, 8, 9, 10, 11, 12].getD s 0

/-- One row of spec/opcode_table.json for a code word of resolutions 1..7: the peeked value `v` is this
code when `v AND mask = pattern`. -/
structure CodeRow where
  res : Nat
  pattern : Nat
  mask : Nat
  instr : Slot → Instr

/-- The code words of resolution 1 (spec/30_encoding.md R96). -/
def codeRows1 : List CodeRow := [
  ⟨1, 0x0, 0x2, .codeR1Zero⟩,
  ⟨1, 0x2, 0x3, .codeR1P1⟩,
  ⟨1, 0x3, 0x3, .codeR1M1⟩]

/-- The code words of resolution 2 (spec/30_encoding.md R96). -/
def codeRows2 : List CodeRow := [
  ⟨2, 0x0, 0x6, .codeR2Zero⟩,
  ⟨2, 0x2, 0x6, .codeR2P1⟩,
  ⟨2, 0x4, 0x6, .codeR2M1⟩,
  ⟨2, 0x6, 0x7, .codeR2P2⟩,
  ⟨2, 0x7, 0x7, .codeR2M2⟩]

/-- The code words of resolution 3 (spec/30_encoding.md R96). -/
def codeRows3 : List CodeRow := [
  ⟨3, 0x0, 0x6, .codeR3Zero⟩,
  ⟨3, 0x2, 0x7, .codeR3P1⟩,
  ⟨3, 0x3, 0x7, .codeR3M1⟩,
  ⟨3, 0x4, 0x7, .codeR3P2⟩,
  ⟨3, 0x5, 0x7, .codeR3M2⟩,
  ⟨3, 0x6, 0x7, .codeR3P3⟩,
  ⟨3, 0x7, 0x7, .codeR3M3⟩]

/-- The code words of resolution 4 (spec/30_encoding.md R96). -/
def codeRows4 : List CodeRow := [
  ⟨4, 0x0, 0xE, .codeR4Zero⟩,
  ⟨4, 0x2, 0xE, .codeR4P1⟩,
  ⟨4, 0x4, 0xE, .codeR4M1⟩,
  ⟨4, 0x6, 0xE, .codeR4P2⟩,
  ⟨4, 0x8, 0xE, .codeR4M2⟩,
  ⟨4, 0xA, 0xE, .codeR4P3⟩,
  ⟨4, 0xC, 0xE, .codeR4M3⟩,
  ⟨4, 0xE, 0xF, .codeR4P4⟩,
  ⟨4, 0xF, 0xF, .codeR4M4⟩]

/-- The code words of resolution 5 (spec/30_encoding.md R96). -/
def codeRows5 : List CodeRow := [
  ⟨5, 0x0, 0xE, .codeR5Zero⟩,
  ⟨5, 0x2, 0xE, .codeR5P1⟩,
  ⟨5, 0x4, 0xE, .codeR5M1⟩,
  ⟨5, 0x6, 0xE, .codeR5P2⟩,
  ⟨5, 0x8, 0xE, .codeR5M2⟩,
  ⟨5, 0xA, 0xF, .codeR5P3⟩,
  ⟨5, 0xB, 0xF, .codeR5M3⟩,
  ⟨5, 0xC, 0xF, .codeR5P4⟩,
  ⟨5, 0xD, 0xF, .codeR5M4⟩,
  ⟨5, 0xE, 0xF, .codeR5P5⟩,
  ⟨5, 0xF, 0xF, .codeR5M5⟩]

/-- The code words of resolution 6 (spec/30_encoding.md R96). -/
def codeRows6 : List CodeRow := [
  ⟨6, 0x0, 0xE, .codeR6Zero⟩,
  ⟨6, 0x2, 0xE, .codeR6P1⟩,
  ⟨6, 0x4, 0xE, .codeR6M1⟩,
  ⟨6, 0x6, 0xF, .codeR6P2⟩,
  ⟨6, 0x7, 0xF, .codeR6M2⟩,
  ⟨6, 0x8, 0xF, .codeR6P3⟩,
  ⟨6, 0x9, 0xF, .codeR6M3⟩,
  ⟨6, 0xA, 0xF, .codeR6P4⟩,
  ⟨6, 0xB, 0xF, .codeR6M4⟩,
  ⟨6, 0xC, 0xF, .codeR6P5⟩,
  ⟨6, 0xD, 0xF, .codeR6M5⟩,
  ⟨6, 0xE, 0xF, .codeR6P6⟩,
  ⟨6, 0xF, 0xF, .codeR6M6⟩]

/-- The code words of resolution 7 (spec/30_encoding.md R96). -/
def codeRows7 : List CodeRow := [
  ⟨7, 0x0, 0xE, .codeR7Zero⟩,
  ⟨7, 0x2, 0xF, .codeR7P1⟩,
  ⟨7, 0x3, 0xF, .codeR7M1⟩,
  ⟨7, 0x4, 0xF, .codeR7P2⟩,
  ⟨7, 0x5, 0xF, .codeR7M2⟩,
  ⟨7, 0x6, 0xF, .codeR7P3⟩,
  ⟨7, 0x7, 0xF, .codeR7M3⟩,
  ⟨7, 0x8, 0xF, .codeR7P4⟩,
  ⟨7, 0x9, 0xF, .codeR7M4⟩,
  ⟨7, 0xA, 0xF, .codeR7P5⟩,
  ⟨7, 0xB, 0xF, .codeR7M5⟩,
  ⟨7, 0xC, 0xF, .codeR7P6⟩,
  ⟨7, 0xD, 0xF, .codeR7M6⟩,
  ⟨7, 0xE, 0xF, .codeR7P7⟩,
  ⟨7, 0xF, 0xF, .codeR7M7⟩]

/-- All code words of resolutions 1..7. -/
def codeRows : List CodeRow :=
  codeRows1 ++ codeRows2 ++ codeRows3 ++ codeRows4 ++ codeRows5 ++ codeRows6 ++ codeRows7

/-- The code word of a resolution 0..7, from the peeked value (spec/30_encoding.md R96). -/
def decodeSmall (slot : Slot) (s v : Nat) : Instr :=
  match codeRows.find? (fun r => r.res == s && (v &&& r.mask) == r.pattern) with
  | some r => r.instr slot
  | none => .codeR0 slot

/-- The code word of a resolution 8..15, from the peeked value: magnitude, then sign
(spec/30_encoding.md R97). -/
def decodeLarge (slot : Slot) (s v : Nat) : Instr :=
  let m := v / 2
  let neg := v % 2 == 1
  match s with
  | 8 => if m = 0 then .codeR8Zero slot else .codeR8Mag slot (BitVec.ofNat 4 m) neg
  | 9 => if m = 0 then .codeR9Zero slot else .codeR9Mag slot (BitVec.ofNat 5 m) neg
  | 10 => if m = 0 then .codeR10Zero slot else .codeR10Mag slot (BitVec.ofNat 6 m) neg
  | 11 => if m = 0 then .codeR11Zero slot else .codeR11Mag slot (BitVec.ofNat 7 m) neg
  | 12 => if m = 0 then .codeR12Zero slot else .codeR12Mag slot (BitVec.ofNat 8 m) neg
  | 13 => if m = 0 then .codeR13Zero slot else .codeR13Mag slot (BitVec.ofNat 9 m) neg
  | 14 => if m = 0 then .codeR14Zero slot else .codeR14Mag slot (BitVec.ofNat 10 m) neg
  | _ => if m = 0 then .codeR15Zero slot else .codeR15Mag slot (BitVec.ofNat 11 m) neg

/-- The code word of resolution `s` that the peeked value `v` begins with (spec/30_encoding.md R96, R97). -/
def decodeCode (slot : Slot) (s v : Nat) : Instr :=
  if s < 8 then decodeSmall slot s v else decodeLarge slot s v

/-- `count` consecutive fields of `n` bits from the present position. -/
def fieldList (rd : Nat → Nat → Nat) (n count : Nat) : List (BitVec n) :=
  (List.range count).map fun k => BitVec.ofNat n (rd (n * k) n)

/-- The instruction that stands at the present position of the block, in a context; `rd off n` is the
`n`-bit field `off` bits ahead (spec/30_encoding.md R83-R90, spec/41_side_info.md R113-R121). -/
def decodeField (c : Context) (rd : Nat → Nat → Nat) : Instr :=
  match c with
  | .header => .sync (BitVec.ofNat 16 (rd 0 16))
  | .noise => .noise (BitVec.ofNat 9 (rd 0 9)) (BitVec.ofNat 7 (rd 9 7))
  | .sfmode ch => .sfmode ch (BitVec.ofNat 3 (rd 0 3))
  | .payload ch mode count =>
    if mode.toNat = 0 then .sfZero ch
    else if 6 ≤ mode.toNat then .sfRaw ch (fieldList rd 6 count)
    else .sfFirst ch (BitVec.ofNat 6 (rd 0 6))
  | .delta ch i mode =>
    if rd 0 mode.toNat = 2 ^ mode.toNat - 1 then
      .sfEscape ch i mode (BitVec.ofNat 6 (rd mode.toNat 6))
    else .sfDelta ch i mode (BitVec.ofNat 5 (rd 0 mode.toNat))
  | .intensity ch =>
    if rd 0 4 < 15 then .intensitySet ch (fieldList rd 4 8) else .intensityAll15 ch
  | .hfrScales ch groups => .hfrScale ch (fieldList rd 6 groups)
  | .code slot res => decodeCode slot res.toNat (rd 0 (maxBits res.toNat))
  | .checksum => .blockChecksum (BitVec.ofNat 16 (rd 0 16))

/-- The operations of the fixed sequence (spec/46_commands.md R167). -/
def decodeSeqOp : SeqOp → Instr
  | .descramble => .descramble
  | .blockStart => .blockStart
  | .stage1 ch => .stage1 ch
  | .dequant ch sf => .dequant ch sf
  | .hfr ch => .hfr ch
  | .intensity ch sf => .intensity ch sf
  | .synth ch sf => .synth ch sf
  | .pcmOut => .pcmOut

/-- The decoder: total on every access, every bit list in every context and every operation. -/
def decode : Source → Instr
  | .access a => decodeAccess a
  | .stream c bits => decodeField c (readBits bits)
  | .sequencer op => decodeSeqOp op

/-! ### Encoding -/

/-- The encoding of a code word: its bits in the context of its coefficient. -/
def codeSource (slot : Slot) (s len code : Nat) : Source :=
  .stream (.code slot (BitVec.ofNat 4 s)) (msbBits len code)

/-- A 32-bit write of a command word to CMD (spec/30_encoding.md R80). -/
def cmdSource (x : Word) : Source := .access ⟨Reg.cmd.addr, 32, .write x⟩

/-- The encoding of a well-formed instruction, written from the encodings of spec/30_encoding.md. For
INTENSITY_ALL15 the bits are the look-ahead, which is not consumed (R88). -/
def encode : Instr → Source
  | .nop => cmdSource 0
  | .reset => cmdSource 1
  | .configure => cmdSource 2
  | .decodeBlock => cmdSource 3
  | .ack => cmdSource 4
  | .reservedCmd x => cmdSource x
  | .regRead r => .access ⟨r.addr, 32, .read⟩
  | .regWrite r v => .access ⟨r.addr, 32, .write v⟩
  | .athRead i => .access ⟨BitVec.ofNat 32 (0x1000 + i.val), 8, .read⟩
  | .athWrite i v => .access ⟨BitVec.ofNat 32 (0x1000 + i.val), 8, .write (v.setWidth 32)⟩
  | .cipherRead i => .access ⟨BitVec.ofNat 32 (0x1100 + i.val), 8, .read⟩
  | .cipherWrite i v => .access ⟨BitVec.ofNat 32 (0x1100 + i.val), 8, .write (v.setWidth 32)⟩
  | .blockbufRead i => .access ⟨BitVec.ofNat 32 (0x10000 + i.val), 8, .read⟩
  | .blockbufWrite i v => .access ⟨BitVec.ofNat 32 (0x10000 + i.val), 8, .write (v.setWidth 32)⟩
  | .pcmbufRead w => .access ⟨BitVec.ofNat 32 (0x20000 + 4 * w.val), 32, .read⟩
  | .badAccess a => .access a
  | .descramble => .sequencer .descramble
  | .blockStart => .sequencer .blockStart
  | .stage1 ch => .sequencer (.stage1 ch)
  | .dequant ch sf => .sequencer (.dequant ch sf)
  | .hfr ch => .sequencer (.hfr ch)
  | .intensity ch sf => .sequencer (.intensity ch sf)
  | .synth ch sf => .sequencer (.synth ch sf)
  | .pcmOut => .sequencer .pcmOut
  | .sync v => .stream .header (msbBits 16 v.toNat)
  | .noise hi lo => .stream .noise (msbBits 9 hi.toNat ++ msbBits 7 lo.toNat)
  | .sfmode ch m => .stream (.sfmode ch) (msbBits 3 m.toNat)
  | .sfZero ch => .stream (.payload ch 0 0) []
  | .sfRaw ch vs => .stream (.payload ch 6 vs.length) (vs.flatMap fun v => msbBits 6 v.toNat)
  | .sfFirst ch v => .stream (.payload ch 1 0) (msbBits 6 v.toNat)
  | .sfDelta ch i m d => .stream (.delta ch i m) (msbBits m.toNat d.toNat)
  | .sfEscape ch i m v =>
    .stream (.delta ch i m) (msbBits m.toNat (2 ^ m.toNat - 1) ++ msbBits 6 v.toNat)
  | .intensitySet ch vs => .stream (.intensity ch) (vs.flatMap fun v => msbBits 4 v.toNat)
  | .intensityAll15 ch => .stream (.intensity ch) (msbBits 4 15)
  | .hfrScale ch vs => .stream (.hfrScales ch vs.length) (vs.flatMap fun v => msbBits 6 v.toNat)
  | .blockChecksum v => .stream .checksum (msbBits 16 v.toNat)
  | .codeR0 d => codeSource d 0 0 0
  | .codeR1Zero d => codeSource d 1 1 0b0
  | .codeR1P1 d => codeSource d 1 2 0b10
  | .codeR1M1 d => codeSource d 1 2 0b11
  | .codeR2Zero d => codeSource d 2 2 0b00
  | .codeR2P1 d => codeSource d 2 2 0b01
  | .codeR2M1 d => codeSource d 2 2 0b10
  | .codeR2P2 d => codeSource d 2 3 0b110
  | .codeR2M2 d => codeSource d 2 3 0b111
  | .codeR3Zero d => codeSource d 3 2 0b00
  | .codeR3P1 d => codeSource d 3 3 0b010
  | .codeR3M1 d => codeSource d 3 3 0b011
  | .codeR3P2 d => codeSource d 3 3 0b100
  | .codeR3M2 d => codeSource d 3 3 0b101
  | .codeR3P3 d => codeSource d 3 3 0b110
  | .codeR3M3 d => codeSource d 3 3 0b111
  | .codeR4Zero d => codeSource d 4 3 0b000
  | .codeR4P1 d => codeSource d 4 3 0b001
  | .codeR4M1 d => codeSource d 4 3 0b010
  | .codeR4P2 d => codeSource d 4 3 0b011
  | .codeR4M2 d => codeSource d 4 3 0b100
  | .codeR4P3 d => codeSource d 4 3 0b101
  | .codeR4M3 d => codeSource d 4 3 0b110
  | .codeR4P4 d => codeSource d 4 4 0b1110
  | .codeR4M4 d => codeSource d 4 4 0b1111
  | .codeR5Zero d => codeSource d 5 3 0b000
  | .codeR5P1 d => codeSource d 5 3 0b001
  | .codeR5M1 d => codeSource d 5 3 0b010
  | .codeR5P2 d => codeSource d 5 3 0b011
  | .codeR5M2 d => codeSource d 5 3 0b100
  | .codeR5P3 d => codeSource d 5 4 0b1010
  | .codeR5M3 d => codeSource d 5 4 0b1011
  | .codeR5P4 d => codeSource d 5 4 0b1100
  | .codeR5M4 d => codeSource d 5 4 0b1101
  | .codeR5P5 d => codeSource d 5 4 0b1110
  | .codeR5M5 d => codeSource d 5 4 0b1111
  | .codeR6Zero d => codeSource d 6 3 0b000
  | .codeR6P1 d => codeSource d 6 3 0b001
  | .codeR6M1 d => codeSource d 6 3 0b010
  | .codeR6P2 d => codeSource d 6 4 0b0110
  | .codeR6M2 d => codeSource d 6 4 0b0111
  | .codeR6P3 d => codeSource d 6 4 0b1000
  | .codeR6M3 d => codeSource d 6 4 0b1001
  | .codeR6P4 d => codeSource d 6 4 0b1010
  | .codeR6M4 d => codeSource d 6 4 0b1011
  | .codeR6P5 d => codeSource d 6 4 0b1100
  | .codeR6M5 d => codeSource d 6 4 0b1101
  | .codeR6P6 d => codeSource d 6 4 0b1110
  | .codeR6M6 d => codeSource d 6 4 0b1111
  | .codeR7Zero d => codeSource d 7 3 0b000
  | .codeR7P1 d => codeSource d 7 4 0b0010
  | .codeR7M1 d => codeSource d 7 4 0b0011
  | .codeR7P2 d => codeSource d 7 4 0b0100
  | .codeR7M2 d => codeSource d 7 4 0b0101
  | .codeR7P3 d => codeSource d 7 4 0b0110
  | .codeR7M3 d => codeSource d 7 4 0b0111
  | .codeR7P4 d => codeSource d 7 4 0b1000
  | .codeR7M4 d => codeSource d 7 4 0b1001
  | .codeR7P5 d => codeSource d 7 4 0b1010
  | .codeR7M5 d => codeSource d 7 4 0b1011
  | .codeR7P6 d => codeSource d 7 4 0b1100
  | .codeR7M6 d => codeSource d 7 4 0b1101
  | .codeR7P7 d => codeSource d 7 4 0b1110
  | .codeR7M7 d => codeSource d 7 4 0b1111
  | .codeR8Zero d => codeSource d 8 4 0
  | .codeR8Mag d mag neg => codeSource d 8 5 (2 * mag.toNat + neg.toNat)
  | .codeR9Zero d => codeSource d 9 5 0
  | .codeR9Mag d mag neg => codeSource d 9 6 (2 * mag.toNat + neg.toNat)
  | .codeR10Zero d => codeSource d 10 6 0
  | .codeR10Mag d mag neg => codeSource d 10 7 (2 * mag.toNat + neg.toNat)
  | .codeR11Zero d => codeSource d 11 7 0
  | .codeR11Mag d mag neg => codeSource d 11 8 (2 * mag.toNat + neg.toNat)
  | .codeR12Zero d => codeSource d 12 8 0
  | .codeR12Mag d mag neg => codeSource d 12 9 (2 * mag.toNat + neg.toNat)
  | .codeR13Zero d => codeSource d 13 9 0
  | .codeR13Mag d mag neg => codeSource d 13 10 (2 * mag.toNat + neg.toNat)
  | .codeR14Zero d => codeSource d 14 10 0
  | .codeR14Mag d mag neg => codeSource d 14 11 (2 * mag.toNat + neg.toNat)
  | .codeR15Zero d => codeSource d 15 11 0
  | .codeR15Mag d mag neg => codeSource d 15 12 (2 * mag.toNat + neg.toNat)

/-- The source with more bits of the block after its own: what stands in a block is followed by other bits up
to BITLIMIT, and a code word shorter than its peek width looks ahead into them (spec/30_encoding.md R96). -/
def Source.extend (rest : List Bool) : Source → Source
  | .stream c bits => .stream c (bits ++ rest)
  | .access a => .access a
  | .sequencer op => .sequencer op

/-- How many bits of the block an instruction consumes: 0 for those that are no block field
(spec/41_side_info.md R127, spec/30_encoding.md R96, R97). -/
def bitLength : Instr → Nat
  | .nop | .reset | .configure | .decodeBlock | .ack | .reservedCmd _ => 0
  | .regRead _ | .regWrite _ _ | .athRead _ | .athWrite _ _ | .cipherRead _ | .cipherWrite _ _ => 0
  | .blockbufRead _ | .blockbufWrite _ _ | .pcmbufRead _ | .badAccess _ => 0
  | .descramble | .blockStart | .stage1 _ | .dequant _ _ | .hfr _ | .intensity _ _ => 0
  | .synth _ _ | .pcmOut => 0
  | .sync _ => 16
  | .noise _ _ => 16
  | .sfmode _ _ => 3
  | .sfZero _ => 0
  | .sfRaw _ vs => 6 * vs.length
  | .sfFirst _ _ => 6
  | .sfDelta _ _ m _ => m.toNat
  | .sfEscape _ _ m _ => m.toNat + 6
  | .intensitySet _ vs => 4 * vs.length
  | .intensityAll15 _ => 0
  | .hfrScale _ vs => 6 * vs.length
  | .blockChecksum _ => 0
  | .codeR0 _ => 0
  | .codeR1Zero _ => 1
  | .codeR1P1 _ => 2
  | .codeR1M1 _ => 2
  | .codeR2Zero _ => 2
  | .codeR2P1 _ => 2
  | .codeR2M1 _ => 2
  | .codeR2P2 _ => 3
  | .codeR2M2 _ => 3
  | .codeR3Zero _ => 2
  | .codeR3P1 _ => 3
  | .codeR3M1 _ => 3
  | .codeR3P2 _ => 3
  | .codeR3M2 _ => 3
  | .codeR3P3 _ => 3
  | .codeR3M3 _ => 3
  | .codeR4Zero _ => 3
  | .codeR4P1 _ => 3
  | .codeR4M1 _ => 3
  | .codeR4P2 _ => 3
  | .codeR4M2 _ => 3
  | .codeR4P3 _ => 3
  | .codeR4M3 _ => 3
  | .codeR4P4 _ => 4
  | .codeR4M4 _ => 4
  | .codeR5Zero _ => 3
  | .codeR5P1 _ => 3
  | .codeR5M1 _ => 3
  | .codeR5P2 _ => 3
  | .codeR5M2 _ => 3
  | .codeR5P3 _ => 4
  | .codeR5M3 _ => 4
  | .codeR5P4 _ => 4
  | .codeR5M4 _ => 4
  | .codeR5P5 _ => 4
  | .codeR5M5 _ => 4
  | .codeR6Zero _ => 3
  | .codeR6P1 _ => 3
  | .codeR6M1 _ => 3
  | .codeR6P2 _ => 4
  | .codeR6M2 _ => 4
  | .codeR6P3 _ => 4
  | .codeR6M3 _ => 4
  | .codeR6P4 _ => 4
  | .codeR6M4 _ => 4
  | .codeR6P5 _ => 4
  | .codeR6M5 _ => 4
  | .codeR6P6 _ => 4
  | .codeR6M6 _ => 4
  | .codeR7Zero _ => 3
  | .codeR7P1 _ => 4
  | .codeR7M1 _ => 4
  | .codeR7P2 _ => 4
  | .codeR7M2 _ => 4
  | .codeR7P3 _ => 4
  | .codeR7M3 _ => 4
  | .codeR7P4 _ => 4
  | .codeR7M4 _ => 4
  | .codeR7P5 _ => 4
  | .codeR7M5 _ => 4
  | .codeR7P6 _ => 4
  | .codeR7M6 _ => 4
  | .codeR7P7 _ => 4
  | .codeR7M7 _ => 4
  | .codeR8Zero _ => 4
  | .codeR8Mag _ _ _ => 5
  | .codeR9Zero _ => 5
  | .codeR9Mag _ _ _ => 6
  | .codeR10Zero _ => 6
  | .codeR10Mag _ _ _ => 7
  | .codeR11Zero _ => 7
  | .codeR11Mag _ _ _ => 8
  | .codeR12Zero _ => 8
  | .codeR12Mag _ _ _ => 9
  | .codeR13Zero _ => 9
  | .codeR13Mag _ _ _ => 10
  | .codeR14Zero _ => 10
  | .codeR14Mag _ _ _ => 11
  | .codeR15Zero _ => 11
  | .codeR15Mag _ _ _ => 12

/-! ### The host's question about one word -/

/-- The resolution a bare code word is read in. The word of a code-word row of spec/opcode_table.json is the
peeked value, right-aligned, and does not hold the resolution, so rows of different resolutions share words.
DESIGN CHOICE (log 17): the smallest resolution whose peek width takes that many whole bytes and holds the
word. -/
def tableRes (nbits w : Nat) : Option Nat :=
  (List.range 16).find? fun s =>
    decide (nbits < maxBits s + 8) && decide (maxBits s ≤ nbits) && 1 ≤ s && decide (w < 2 ^ maxBits s)

/-- The instruction of one word of spec/opcode_table.json: 32 bits are a command word written to CMD;
8 or 16 bits are a code word, read in the resolution `tableRes` gives (log 17). -/
def decodeTableWord (nbits w : Nat) : Option Instr :=
  if nbits = 32 then some (decode (.access ⟨Reg.cmd.addr, 32, .write (BitVec.ofNat 32 w)⟩))
  else (tableRes nbits w).map fun s => decodeCode ⟨0, 0⟩ s w

end Sys2Proof
end

