-- ==== Sys2Proof/Machine/State.lean ====
section
/-! DEFINITION. The state of HCADEC, as plain data: everything spec/10_state.md R20-R53 names, and the host's
side of the bus (`Port`), which is the model's own. -/

namespace Sys2Proof.Machine

/-- PHASE (spec/10_state.md R37). -/
inductive Phase where
  | unconfigured
  | configured
  | busy
  | faulted
  deriving DecidableEq, Repr

/-- TYPE of a channel (spec/00_scope.md R13, spec/10_state.md R38): 0 discrete, 1 primary, 2 secondary. -/
inductive ChanType where
  | discrete
  | primary
  | secondary
  deriving DecidableEq, Repr

/-- The faults HCADEC raises, with what their information words hold (spec/60_exceptions.md R173). They are
recorded in the state and the machine goes on in FAULTED; they are not stops of the model. -/
inductive Cause where
  /-- A reserved command word (R174). -/
  | illegalCommand (word : Word)
  /-- CONFIGURE with a failing check, 1..8 (R175). -/
  | badConfig (check : Nat)
  /-- DECODE_BLOCK in UNCONFIGURED (R176). -/
  | notConfigured
  /-- A locked write, or CONFIGURE in CONFIGURED (R177). -/
  | configLocked (info : Word)
  /-- An access in BUSY (R178). -/
  | hostBusy (addr : Word)
  /-- An access that fails a check of R169 step (2) (R179). -/
  | badAccess (addr : Word)
  /-- A wrong sync field (R180). -/
  | badSync (sync : BitVec 16)
  /-- A delta scale factor outside 0..63 (R181). -/
  | scaleFactorRange (ch i : Nat)
  /-- A stage-3 source index below 0 (R182). -/
  | hfrUnderflow (ch k : Nat)
  /-- A NaN sample (R183). -/
  | nonFiniteSample (ch sf j : Nat)
  deriving DecidableEq, Repr

/-- The state of one channel (spec/10_state.md sections 3, 4 and 6). -/
structure Channel where
  /-- TYPE[ch] (R38). -/
  type : ChanType
  /-- COUNT[ch], 0..128 (R38). -/
  count : Nat
  /-- SF[ch][0..127] (R39). -/
  sf : Vector (BitVec 6) 128
  /-- INT[ch][0..7] (R40). -/
  int : Vector (BitVec 4) 8
  /-- RES[ch][0..127] (R41). -/
  res : Vector (BitVec 4) 128
  /-- BASE[ch][0..127] (R42). -/
  base : Vector F32 128
  /-- SPEC[ch][0..127] (R47). -/
  spec : Vector F32 128
  /-- WAV1[ch][0..127] (R48). -/
  wav1 : Vector F32 128
  /-- WAV2[ch][0..127] (R49). -/
  wav2 : Vector F32 128
  /-- WAV3[ch][0..127], the overlap carried to the next subframe and block (R50). -/
  wav3 : Vector F32 128
  /-- WAVE[ch][0..7][0..127] (R51). -/
  wave : Vector (Vector F32 128) 8
  deriving DecidableEq, Repr

/-- A channel after reset: all zero (spec/10_state.md R38-R51). -/
def Channel.reset : Channel where
  type := .discrete
  count := 0
  sf := Vector.replicate 128 0
  int := Vector.replicate 8 0
  res := Vector.replicate 128 0
  base := Vector.replicate 128 0
  spec := Vector.replicate 128 0
  wav1 := Vector.replicate 128 0
  wav2 := Vector.replicate 128 0
  wav3 := Vector.replicate 128 0
  wave := Vector.replicate 8 (Vector.replicate 128 0)

/-- A sparse store of words: (key, word) pairs, keys strictly rising, no entry equal to what an unlisted key
reads as. -/
abbrev Cells (w : Nat) := List (Nat × BitVec w)

/-- The byte windows of the host address space, by host byte address (spec/20_memory.md R62-R64). -/
abbrev Memory := List Host.Cell

/-- What happens next, from outside the state the spec gives: a host access, or the decoder's turn
(spec/20_memory.md R73, spec/46_commands.md R161). DESIGN CHOICE (log 1). -/
inductive Event where
  | access (a : Access)
  | decoder
  deriving DecidableEq, Repr

/-- The host's side of the bus; the MODEL's own, not the spec's (logs 1 and 2). -/
structure Port where
  /-- The accesses and decoder turns still to come, the next first (log 1). -/
  inbox : List Event
  /-- What the last host read returned, an 8-bit read zero-extended (log 2). -/
  readData : Word
  deriving DecidableEq, Repr

/-- The whole state (spec/10_state.md R20). -/
structure State where
  /-- PHASE (R37). -/
  phase : Phase
  /-- STATUS.DONE (R23). -/
  done : Bool
  /-- STATUS.REFUSED (R23). -/
  refused : Bool
  /-- STATUS.FAULT_CODE (R23). -/
  faultCode : BitVec 8
  /-- FAULT_INFO (R25). -/
  faultInfo : Word
  /-- IRQ_EN (R24). -/
  irqEn : Word
  /-- BITPOS (R26), a u32 that cannot wrap (spec/40_bitreader.md R112), held as a number (log 14). -/
  bitPos : Nat
  /-- BLOCKS_DONE (R27). -/
  blocksDone : Word
  /-- CHTYPE (R28). -/
  chType : Word
  /-- CHANNELS (R29). -/
  channels : Word
  /-- BLOCK_SIZE (R30). -/
  blockSize : Word
  /-- R01 (R31). -/
  r01 : Word
  /-- R02 (R31). -/
  r02 : Word
  /-- R03, the track count (R32). -/
  r03 : Word
  /-- R04, the channel configuration (R32). -/
  r04 : Word
  /-- R05, the total band count (R33). -/
  r05 : Word
  /-- R06, the base band count (R33). -/
  r06 : Word
  /-- R07, the stereo band count (R33). -/
  r07 : Word
  /-- R08, the bands per HFR group (R33). -/
  r08 : Word
  /-- R09, the HFR group count (R34). -/
  r09 : Word
  /-- VOLUME (R35). -/
  volume : F32
  /-- PCM_FORMAT (R36). -/
  pcmFormat : Word
  /-- NOISE (R52). -/
  noise : Int
  /-- BITLIMIT (R53), held as a number (log 14). -/
  bitLimit : Nat
  /-- The channels 0..15 (R38-R51). -/
  chans : Vector Channel 16
  /-- ATH, CIPHER and BLOCKBUF (R43-R45), at their host addresses. -/
  mem : Memory
  /-- PCMBUF (R46), by word index. -/
  pcm : Cells 32
  /-- The host's side of the bus (the model's own). -/
  port : Port
  deriving DecidableEq, Repr

/-- The state after power-on reset (spec/10_state.md reset table, spec/70_reset_and_hazards.md R197). The
port is empty (DESIGN CHOICE, logs 1 and 2). -/
def State.reset : State where
  phase := .unconfigured
  done := false
  refused := false
  faultCode := 0
  faultInfo := 0
  irqEn := 0
  bitPos := 0
  blocksDone := 0
  chType := 0
  channels := 0
  blockSize := 0
  r01 := 0
  r02 := 0
  r03 := 0
  r04 := 0
  r05 := 0
  r06 := 0
  r07 := 0
  r08 := 0
  r09 := 0
  volume := 0x3F800000
  pcmFormat := 0
  noise := 0
  bitLimit := 0
  chans := Vector.replicate 16 Channel.reset
  mem := []
  pcm := []
  port := ⟨[], 0⟩

/-- The reasons the MODEL could stop with a fault. There are none: the spec gives every instruction an effect
on every state, and HCADEC's own faults (`Cause`) are next states in phase FAULTED
(spec/60_exceptions.md R186). Raised by nothing; safe. -/
inductive Fault where
  deriving DecidableEq, Repr

/-- The reasons the MODEL could refuse an instruction. -/
inductive Refusal where
  /-- An instruction with no meaning yet, rejected by its name in exec's arm. No arm raises it; safe. -/
  | notModelled (mnemonic : String)
  deriving DecidableEq, Repr

end Sys2Proof.Machine
end

