-- ==== Sys2Proof/Machine/Flags.lean ====
section
/-! DEFINITION. The status bits: the STATUS word, the interrupt level, and the code and information word of
each fault (spec/10_state.md R23, spec/60_exceptions.md R173, R188). HCADEC has no condition flags
(spec/10_state.md R55). -/

namespace Sys2Proof.Machine

/-- PHASE as it reads in STATUS bits[1:0] (spec/10_state.md R23). -/
def phaseCode : Phase → Nat
  | .unconfigured => 0
  | .configured => 1
  | .busy => 2
  | .faulted => 3

/-- TYPE as it reads in CHTYPE (spec/10_state.md R28). -/
def typeCode : ChanType → Nat
  | .discrete => 0
  | .primary => 1
  | .secondary => 2

/-- The interrupt line (spec/60_exceptions.md R188): DONE with DONE_IE, or FAULTED with FAULT_IE. DEDUCED
(log 10): it is computed from the present state, so it is up to date after every access and step. -/
def State.irq (s : State) : Bool :=
  (s.done && s.irqEn.getLsbD 0) || (s.phase == .faulted && s.irqEn.getLsbD 1)

/-- The STATUS word (spec/46_commands.md R170). -/
def State.status (s : State) : Word :=
  BitVec.ofNat 32
    (phaseCode s.phase + 4 * s.done.toNat + 8 * s.refused.toNat + 16 * s.irq.toNat
      + 256 * s.faultCode.toNat)

/-- The code of a fault (spec/60_exceptions.md R173). -/
def Cause.code : Cause → BitVec 8
  | .illegalCommand _ => 1
  | .badConfig _ => 2
  | .notConfigured => 3
  | .configLocked _ => 4
  | .hostBusy _ => 5
  | .badAccess _ => 6
  | .badSync _ => 7
  | .scaleFactorRange _ _ => 8
  | .hfrUnderflow _ _ => 9
  | .nonFiniteSample _ _ _ => 10

/-- The information word of a fault (spec/60_exceptions.md R173-R183). -/
def Cause.info : Cause → Word
  | .illegalCommand x => x
  | .badConfig n => BitVec.ofNat 32 n
  | .notConfigured => 0x00000003
  | .configLocked v => v
  | .hostBusy a => a
  | .badAccess a => a
  | .badSync v => v.setWidth 32
  | .scaleFactorRange ch i => BitVec.ofNat 32 (ch <<< 8 ||| i)
  | .hfrUnderflow ch k => BitVec.ofNat 32 (ch <<< 8 ||| k)
  | .nonFiniteSample ch sf j => BitVec.ofNat 32 (ch <<< 16 ||| sf <<< 8 ||| j)

end Sys2Proof.Machine
end

