-- ==== Sys2Proof/Config.lean ====
section
/-! DEFINITION. What one HCADEC fixes and the spec does not give: the OPEN parameters of spec/00_scope.md R5
and the free values: a NaN result, and the datapath after a decode fault. Each is an opaque constant: nothing in Lean can evaluate it, so a claim
holds whatever it is. -/

namespace Sys2Proof.Config

/-- SYNTH_SIN[level][t], level 0..6, t 0..63: OPEN (spec/44_synthesis.md R144). DESIGN CHOICE (log 4): a
constant with no body, safe. -/
opaque synthSin : Nat → Nat → F32

/-- SYNTH_COS[level][t]: OPEN (spec/44_synthesis.md R144; log 4). -/
opaque synthCos : Nat → Nat → F32

/-- SYNTH_WINDOW[i], i 0..127: OPEN (spec/44_synthesis.md R144; log 4). -/
opaque synthWindow : Nat → F32

/-- INTENSITY_GATE (spec/43_reconstruct.md R137). -/
inductive IntensityGate where
  /-- The gate is open when R07 is not 0. -/
  | headerBands
  /-- The gate is open when INT[ch+1][sf] is not 0. -/
  | subframeNonzero
  deriving DecidableEq, Repr, Inhabited

/-- SECONDARY_FACTOR (spec/43_reconstruct.md R137). -/
inductive SecondaryFactor where
  | r1Minus2
  | twoMinusR1
  deriving DecidableEq, Repr, Inhabited

/-- The gate of this HCADEC: OPEN, both settings allowed (spec/92_eei_decisions.md D13; log 5). -/
opaque intensityGate : IntensityGate

/-- The secondary factor of this HCADEC: OPEN, both settings allowed (spec/92_eei_decisions.md D14; log 5). -/
opaque secondaryFactor : SecondaryFactor

/-- The word an operation would answer where IEEE 754 asks for some NaN and the spec does not say which
(spec/00_scope.md R8, spec/44_synthesis.md R149): a free value of the operation and its operands. The
arithmetic makes a NaN of it (log 7). -/
opaque nanWord : Nat → F32 → F32 → F32

/-- What an entry of a datapath array holds after a decode fault, which is unspecified (spec/60_exceptions.md
R187): a free value of the array's number, the channel, the index and what stood there (log 8). -/
opaque entryAfterFault : Nat → Nat → Nat → F32 → F32

/-- What NOISE holds after a decode fault, which is unspecified too (R187; log 8). -/
opaque noiseAfterFault : Int → Int

/-- The OPEN parameters together, as the datapath takes them: "a model takes the OPEN parameters as
arguments" (spec/00_scope.md R5). -/
structure Params where
  synthSin : Nat → Nat → F32
  synthCos : Nat → Nat → F32
  synthWindow : Nat → F32
  gate : IntensityGate
  factor : SecondaryFactor

/-- The parameters of this HCADEC. -/
def params : Params := ⟨synthSin, synthCos, synthWindow, intensityGate, secondaryFactor⟩

end Sys2Proof.Config
end

