-- ==== Sys2Proof/Machine/Float.lean ====
section
/-! DEFINITION. IEEE 754 binary32 on bit patterns (spec/00_scope.md R8): fadd, fsub and fmul, each rounded to
nearest, ties to even; subnormals kept; signed zeros and infinities by IEEE 754. A finite value is an exact
multiple of 2^-149, so each operation computes exactly on integers and rounds once. -/

namespace Sys2Proof.Machine

/-- The sign bit. -/
def fNeg (x : F32) : Bool := decide (2 ^ 31 ≤ x.toNat)

/-- The exponent field, bits[30:23]. -/
def fExp (x : F32) : Nat := x.toNat / 2 ^ 23 % 256

/-- The fraction field, bits[22:0]. -/
def fFrac (x : F32) : Nat := x.toNat % 2 ^ 23

def fIsNaN (x : F32) : Bool := fExp x == 255 && fFrac x != 0

def fIsInf (x : F32) : Bool := fExp x == 255 && fFrac x == 0

/-- Neither infinite nor NaN: the check of VOLUME (spec/46_commands.md R163 check 7). -/
def fFinite (x : F32) : Bool := fExp x != 255

/-- The magnitude of a finite value in units of 2^-149; larger than every finite one for an infinity. -/
def fUnits (x : F32) : Nat :=
  if fExp x = 0 then fFrac x else (2 ^ 23 + fFrac x) * 2 ^ (fExp x - 1)

/-- The value of a finite binary32 in units of 2^-149. -/
def fInt (x : F32) : Int := if fNeg x then -(fUnits x : Int) else fUnits x

/-- A zero of a sign. -/
def fZero (neg : Bool) : F32 := if neg then 0x80000000 else 0

/-- An infinity of a sign. -/
def fInf (neg : Bool) : F32 := if neg then 0xFF800000 else 0x7F800000

/-- The binary32 of sign `neg` nearest to `m` x 2^(-149-k), ties to even; an infinity on overflow. `q` is the
exponent of the result's last place above 2^-149 and `d` the number of bits of `m` rounded away; the pattern
of a magnitude whose last place is `q` and whose integer is `r` is q x 2^23 + r. -/
def fRound (neg : Bool) (m k : Nat) : F32 :=
  let q := m.log2 - 23 - k
  let d := q + k
  let r := m / 2 ^ d
  let rem := m % 2 ^ d
  let up := decide (2 ^ d < 2 * rem) || (decide (2 * rem = 2 ^ d) && r % 2 == 1)
  let mag := q * 2 ^ 23 + (if up then r + 1 else r)
  BitVec.ofNat 32 ((if neg then 2 ^ 31 else 0) + min mag 0x7F800000)

/-- The NaN an operation answers: the free word if it is a NaN, else a NaN of the model's (log 7). Every NaN
is possible and nothing tells which. -/
def fNaN (op : Nat) (a b : F32) : F32 :=
  if fIsNaN (Config.nanWord op a b) then Config.nanWord op a b else 0x7FC00000

/-- The sum of two values neither of which is NaN; `op` names the operation for a NaN result. -/
def fSum (op : Nat) (a b : F32) : F32 :=
  if fIsInf a then (if fIsInf b && fNeg a != fNeg b then fNaN op a b else a)
  else if fIsInf b then b
  else
    let n := fInt a + fInt b
    if n = 0 then fZero (fNeg a && fNeg b) else fRound (decide (n < 0)) n.natAbs 0

/-- fadd (spec/00_scope.md R8). -/
def fadd (a b : F32) : F32 := if fIsNaN a || fIsNaN b then fNaN 0 a b else fSum 0 a b

/-- fsub: the sum with the subtrahend's sign inverted (spec/00_scope.md R8). -/
def fsub (a b : F32) : F32 :=
  if fIsNaN a || fIsNaN b then fNaN 1 a b else fSum 1 a (b ^^^ 0x80000000)

/-- fmul (spec/00_scope.md R8). -/
def fmul (a b : F32) : F32 :=
  let neg := fNeg a != fNeg b
  if fIsNaN a || fIsNaN b then fNaN 2 a b
  else if fIsInf a || fIsInf b then
    (if fUnits a = 0 ∨ fUnits b = 0 then fNaN 2 a b else fInf neg)
  else fRound neg (fUnits a * fUnits b) 149

/-- a < b, false when either is NaN. -/
def flt (a b : F32) : Bool := !fIsNaN a && !fIsNaN b && decide (fInt a < fInt b)

/-- `float(q)`: an integer as binary32, exact below 2^24 (spec/00_scope.md R8). -/
def fOfInt (q : Int) : F32 := fRound (decide (q < 0)) (q.natAbs * 2 ^ 149) 0

/-- `trunc(f)`: the integer part of a finite value, rounded toward zero (spec/00_scope.md R9). -/
def fTrunc (f : F32) : Int :=
  if fNeg f then -((fUnits f / 2 ^ 149 : Nat) : Int) else (fUnits f / 2 ^ 149 : Nat)

end Sys2Proof.Machine
end

