-- ==== Sys2Proof/Machine/Ops.lean ====
section
/-! DEFINITION. The named operations over the state: arrays, sparse stores, memory, registers, fault entry and
refusal, the bit reader, and the effects the block fields and code words share. -/

namespace Sys2Proof.Machine

/-- What every meaning answers. -/
abbrev Result := Host.Outcome State Fault Refusal

/-! ### Arrays -/

/-- `A[i]`; 0 outside the array, which no rule reads (log 12). -/
def entry {w n : Nat} (v : Vector (BitVec w) n) (i : Nat) : BitVec w := v[i]?.getD 0

/-- `for i in lo..lo+n-1: A[i] <- f i`; an index outside the array writes nothing (log 12). -/
def fillRange {w n : Nat} (v : Vector (BitVec w) n) (lo cnt : Nat) (f : Nat → BitVec w) :
    Vector (BitVec w) n :=
  (List.range' lo cnt).foldl (fun v i => v.setIfInBounds i (f i)) v

/-- Consecutive values written from index `lo` on. -/
def writeRun {w n : Nat} (v : Vector (BitVec w) n) (lo : Nat) : List (BitVec w) → Vector (BitVec w) n
  | [] => v
  | x :: xs => writeRun (v.setIfInBounds lo x) (lo + 1) xs

/-! ### Sparse stores in canonical form -/

/-- The word at a key: the entry's, or what an unlisted key reads as. -/
def cellsRead {w : Nat} (dflt : Nat → BitVec w) : Cells w → Nat → BitVec w
  | [], a => dflt a
  | (b, u) :: t, a => if a = b then u else cellsRead dflt t a

/-- Store a word at a key, keeping the keys rising and no entry equal to what an unlisted key reads as. -/
def cellsWrite {w : Nat} (dflt : Nat → BitVec w) : Cells w → Nat → BitVec w → Cells w
  | [], a, v => if v = dflt a then [] else [(a, v)]
  | (b, u) :: t, a, v =>
    if a < b then (if v = dflt a then (b, u) :: t else (a, v) :: (b, u) :: t)
    else if a = b then (if v = dflt a then t else (a, v) :: t)
    else (b, u) :: cellsWrite dflt t a v

/-- The canonical form from a key on: keys inside the domain, strictly rising from `lo`, no entry equal to
what an unlisted key reads as. -/
def cellsWfFrom {w : Nat} (dflt : Nat → BitVec w) (dom : Nat → Bool) : Nat → Cells w → Bool
  | _, [] => true
  | lo, (a, v) :: t => decide (lo ≤ a) && dom a && v != dflt a && cellsWfFrom dflt dom (a + 1) t

/-- The canonical form of a store. -/
def cellsWf {w : Nat} (dflt : Nat → BitVec w) (dom : Nat → Bool) (m : Cells w) : Bool :=
  cellsWfFrom dflt dom 0 m

/-! ### Memory: ATH, CIPHER and BLOCKBUF -/

/-- The host address of ATH[i] (spec/20_memory.md R62). -/
def athAddr (i : Nat) : Nat := 0x1000 + i

/-- The host address of CIPHER[i] (spec/20_memory.md R63). -/
def cipherAddr (i : Nat) : Nat := 0x1100 + i

/-- The host address of BLOCKBUF[i] (spec/20_memory.md R64). -/
def blockAddr (i : Nat) : Nat := 0x10000 + i

/-- The byte windows of the address map (spec/20_memory.md R60). -/
def memMapped (a : Nat) : Bool :=
  (decide (0x1000 ≤ a) && decide (a < 0x1080)) || (decide (0x1100 ≤ a) && decide (a < 0x1200))
    || (decide (0x10000 ≤ a) && decide (a < 0x1FFFF))

/-- What an unlisted byte reads as: its reset contents, which the spec gives (spec/10_state.md R43-R45):
CIPHER[i] = i, everything else 0. -/
def memDefault (a : Nat) : Byte :=
  if 0x1100 ≤ a ∧ a < 0x1200 then BitVec.ofNat 8 (a - 0x1100) else 0

/-- The canonical form of the memory. -/
def Memory.wf (m : Memory) : Bool := cellsWf memDefault memMapped m

/-- One byte of the byte windows. -/
def memRead (m : Memory) (a : Nat) : Byte := cellsRead memDefault m a

/-- Store one byte; outside the byte windows nothing is stored (log 12). -/
def memWrite (m : Memory) (a : Nat) (v : Byte) : Memory :=
  if memMapped a then cellsWrite memDefault m a v else m

/-- ATH[i]. -/
def State.ath (s : State) (i : Nat) : Byte := memRead s.mem (athAddr i)

/-- CIPHER[i]. -/
def State.cipher (s : State) (i : Nat) : Byte := memRead s.mem (cipherAddr i)

/-- BLOCKBUF[i]. -/
def State.blockByte (s : State) (i : Nat) : Byte := memRead s.mem (blockAddr i)

/-- Store one byte of memory. -/
def State.storeByte (s : State) (a : Nat) (v : Byte) : State := { s with mem := memWrite s.mem a v }

/-! ### PCMBUF -/

/-- The words of PCMBUF (spec/10_state.md R46). -/
def pcmMapped (w : Nat) : Bool := decide (w < 16384)

/-- What an unlisted word of PCMBUF reads as: its reset value (spec/10_state.md R46). -/
def pcmDefault (_ : Nat) : Word := 0

/-- The canonical form of PCMBUF. -/
def pcmWf (p : Cells 32) : Bool := cellsWf pcmDefault pcmMapped p

/-- PCMBUF[w]. -/
def pcmRead (p : Cells 32) (w : Nat) : Word := cellsRead pcmDefault p w

/-- PCMBUF[w] <- v; beyond PCMBUF nothing is stored (log 12). -/
def pcmWrite (p : Cells 32) (w : Nat) (v : Word) : Cells 32 :=
  if pcmMapped w then cellsWrite pcmDefault p w v else p

/-! ### Channels -/

/-- The state of a channel; the reset channel beyond 15, which no rule reads (log 12). -/
def State.chan (s : State) (ch : Nat) : Channel := s.chans[ch]?.getD Channel.reset

/-- Replace the state of one channel. -/
def State.setChan (s : State) (ch : Nat) (k : Channel) : State :=
  { s with chans := s.chans.setIfInBounds ch k }

/-- Change the state of one channel. -/
def State.modChan (s : State) (ch : Nat) (f : Channel → Channel) : State := s.setChan ch (f (s.chan ch))

/-! ### Registers -/

/-- The value a read of a register returns (spec/46_commands.md R170). CMD stores nothing and is never read
(spec/10_state.md R22). -/
def State.reg (s : State) : Reg → Word
  | .id => 0x48434431
  | .cmd => 0
  | .status => s.status
  | .irqEn => s.irqEn
  | .faultInfo => s.faultInfo
  | .bitPos => BitVec.ofNat 32 s.bitPos
  | .blocksDone => s.blocksDone
  | .chType => s.chType
  | .channels => s.channels
  | .blockSize => s.blockSize
  | .r01 => s.r01
  | .r02 => s.r02
  | .r03 => s.r03
  | .r04 => s.r04
  | .r05 => s.r05
  | .r06 => s.r06
  | .r07 => s.r07
  | .r08 => s.r08
  | .r09 => s.r09
  | .volume => s.volume
  | .pcmFormat => s.pcmFormat

/-- Store a config register or IRQ_EN, the full word as written (spec/46_commands.md R170). The other
registers store nothing. -/
def State.setReg (s : State) (r : Reg) (v : Word) : State :=
  match r with
  | .irqEn => { s with irqEn := v }
  | .channels => { s with channels := v }
  | .blockSize => { s with blockSize := v }
  | .r01 => { s with r01 := v }
  | .r02 => { s with r02 := v }
  | .r03 => { s with r03 := v }
  | .r04 => { s with r04 := v }
  | .r05 => { s with r05 := v }
  | .r06 => { s with r06 := v }
  | .r07 => { s with r07 := v }
  | .r08 => { s with r08 := v }
  | .volume => { s with volume := v }
  | .pcmFormat => { s with pcmFormat := v }
  | .id | .cmd | .status | .faultInfo | .bitPos | .blocksDone | .chType | .r09 => s

/-! ### Fault entry, refusal, return -/

/-- Fault entry (spec/60_exceptions.md R186): the code and the information word are recorded and PHASE becomes
FAULTED; nothing else changes. -/
def State.raise (s : State) (c : Cause) : State :=
  { s with faultCode := c.code, faultInfo := c.info, phase := .faulted }

/-- An array whose entries are unspecified (log 8). -/
def freeArray {w n : Nat} (array ch : Nat) (v : Vector (BitVec w) n) : Vector (BitVec w) n :=
  Vector.ofFn fun i => (Config.entryAfterFault array ch i.val (v[i].setWidth 32)).setWidth w

/-- A channel whose datapath arrays are unspecified (spec/60_exceptions.md R187); TYPE and COUNT stay. -/
def Channel.unspecified (ch : Nat) (k : Channel) : Channel :=
  { k with
    sf := freeArray 0 ch k.sf
    int := freeArray 1 ch k.int
    res := freeArray 2 ch k.res
    base := freeArray 3 ch k.base
    spec := freeArray 4 ch k.spec
    wav1 := freeArray 5 ch k.wav1
    wav2 := freeArray 6 ch k.wav2
    wav3 := freeArray 7 ch k.wav3
    wave := Vector.ofFn fun f => freeArray (8 + f.val) ch k.wave[f] }

/-- The state a decode fault leaves: the datapath arrays and NOISE are unspecified, everything else stands
(spec/60_exceptions.md R187; free values, log 8). -/
def State.unspecified (s : State) : State :=
  { s with
    noise := Config.noiseAfterFault s.noise
    chans := Vector.ofFn fun ch => s.chans[ch].unspecified ch.val }

/-- Refusal in FAULTED (spec/60_exceptions.md R186): REFUSED is set and nothing else changes. -/
def State.refuse (s : State) : State := { s with refused := true }

/-- The only return from a fault, and power-on reset (spec/46_commands.md R165, spec/60_exceptions.md R192):
every piece of the spec's state takes its reset value. The port, the host's side, stays (log 9). -/
def State.resetAll (s : State) : State := { State.reset with port := s.port }

/-- The host's read returns a value. -/
def State.returns (s : State) (v : Word) : State := { s with port := { s.port with readData := v } }

/-- The next operation of the decoder step, unless a fault has ended it (spec/60_exceptions.md R186). -/
def State.andThen (s : State) (f : State → State) : State := if s.phase = .faulted then s else f s

/-- `for a in l`, ended by a fault. -/
def forEach {α : Type} (l : List α) (f : α → State → State) (s : State) : State :=
  l.foldl (fun s a => s.andThen (f a)) s

/-! ### The bit reader -/

/-- The `n`-bit field at position `p` (spec/40_bitreader.md R107 with `p` for BITPOS). -/
def State.peekAt (s : State) (p n : Nat) : Nat :=
  if s.bitLimit < p + n then 0
  else if n = 0 then 0
  else
    let b := p / 8
    let o := p % 8
    let v := (s.blockByte b).toNat * 65536 + (s.blockByte (b + 1)).toNat * 256
      + (s.blockByte (b + 2)).toNat
    (v &&& (0xFFFFFF >>> o)) >>> (24 - o - n)

/-- `peek(n)` (spec/40_bitreader.md R107). -/
def State.peek (s : State) (n : Nat) : Nat := s.peekAt s.bitPos n

/-- The field `off` bits ahead of BITPOS: what `take` answers after `off` bits have been taken
(spec/40_bitreader.md R108). -/
def State.reader (s : State) (off n : Nat) : Nat := s.peekAt (s.bitPos + off) n

/-- `advance(n)` (spec/40_bitreader.md R109). -/
def State.advance (s : State) (n : Nat) : State := { s with bitPos := s.bitPos + n }

/-! ### What the block fields do (spec/41_side_info.md) -/

/-- SYNC (R113): take 16 bits; BadSync unless they are 0xFFFF. -/
def opSync (v : BitVec 16) (s : State) : State :=
  let s := s.advance 16
  if v = 0xFFFF then s else s.raise (.badSync v)

/-- NOISE (R114). -/
def opNoise (hi : BitVec 9) (lo : BitVec 7) (s : State) : State :=
  { s.advance 16 with noise := (hi.toNat : Int) * 256 - lo.toNat }

/-- SFMODE (R115): the mode is taken; the sequence chooses the payload by it. -/
def opSfmode (s : State) : State := s.advance 3

/-- SF_ZERO (R117): all 128 scale factors are cleared. -/
def opSfZero (ch : Nat) (s : State) : State :=
  s.modChan ch fun k => { k with sf := fillRange k.sf 0 128 fun _ => 0 }

/-- SF_RAW (R116): the scale factors from index 0 on. -/
def opSfRaw (ch : Nat) (values : List (BitVec 6)) (s : State) : State :=
  (s.advance (6 * values.length)).modChan ch fun k => { k with sf := writeRun k.sf 0 values }

/-- SF_FIRST (R118): the first scale factor of delta mode, written even when COUNT is 0. -/
def opSfFirst (ch : Nat) (v : BitVec 6) (s : State) : State :=
  (s.advance 6).modChan ch fun k => { k with sf := k.sf.setIfInBounds 0 v }

/-- SF_DELTA (R118, R119): the previous scale factor plus d - half, or ScaleFactorRange. -/
def opSfDelta (ch i m d : Nat) (s : State) : State :=
  let half : Nat := (2 ^ m - 1) / 2
  let v : Int := (entry (s.chan ch).sf (i - 1)).toNat + d - half
  let s := s.advance m
  if v < 0 ∨ 63 < v then s.raise (.scaleFactorRange ch i)
  else s.modChan ch fun k => { k with sf := k.sf.setIfInBounds i (BitVec.ofInt 6 v) }

/-- SF_ESCAPE (R118): the new scale factor, raw. -/
def opSfEscape (ch i m : Nat) (v : BitVec 6) (s : State) : State :=
  (s.advance (m + 6)).modChan ch fun k => { k with sf := k.sf.setIfInBounds i v }

/-- INTENSITY_SET (R120). -/
def opIntensitySet (ch : Nat) (values : List (BitVec 4)) (s : State) : State :=
  (s.advance (4 * values.length)).modChan ch fun k => { k with int := writeRun k.int 0 values }

/-- INTENSITY_ALL15 (R120): no bits are consumed. -/
def opIntensityAll15 (ch : Nat) (s : State) : State :=
  s.modChan ch fun k => { k with int := fillRange k.int 0 8 fun _ => 15 }

/-- HFR_SCALE (R121): the scales from index R06 + R07 on. -/
def opHfrScale (ch : Nat) (values : List (BitVec 6)) (s : State) : State :=
  (s.advance (6 * values.length)).modChan ch fun k =>
    { k with sf := writeRun k.sf (s.r06.toNat + s.r07.toNat) values }

/-- A code word of `len` bits and value `q` for coefficient `i` (spec/42_dequant.md R128, R132). -/
def opCode (ch i len : Nat) (q : Int) (s : State) : State :=
  (s.advance len).modChan ch fun k =>
    { k with spec := k.spec.setIfInBounds i (fmul (entry k.base i) (fOfInt q)) }

end Sys2Proof.Machine
end

