-- ==== Sys2Proof/Machine/Operands.lean ====
section
/-! DEFINITION. The forms of a host operation: a read, a write and a command word, each with the checks of
spec/46_commands.md R160 and R169 in their order. -/

namespace Sys2Proof.Machine

/-- A host read (spec/46_commands.md R169, spec/60_exceptions.md R186). `ok` says that it passes the checks of
step (2), `always` that it is a read of ID or STATUS. A refused or faulting read returns 0. -/
def hostRead (addr : Word) (ok always : Bool) (value : Word) (s : State) : State :=
  if s.phase = .faulted then (if ok then s.returns value else s.refuse.returns 0)
  else if !ok then (s.raise (.badAccess addr)).returns 0
  else if s.phase = .busy ∧ !always then (s.raise (.hostBusy addr)).returns 0
  else s.returns value

/-- A host write other than of CMD (spec/46_commands.md R169). `ok` says that it passes the checks of step
(2), `locked` that it writes a config register, ATH or CIPHER. -/
def hostWrite (addr : Word) (ok locked : Bool) (store : State → State) (s : State) : State :=
  if s.phase = .faulted then s.refuse
  else if !ok then s.raise (.badAccess addr)
  else if s.phase = .busy then s.raise (.hostBusy addr)
  else if s.phase = .configured ∧ locked then s.raise (.configLocked addr)
  else store s

/-- A write of a word other than RESET to CMD (spec/46_commands.md R160): refused in FAULTED, HostBusy in
BUSY, otherwise `act`. -/
def hostCommand (act : State → State) (s : State) : State :=
  if s.phase = .faulted then s.refuse
  else if s.phase = .busy then s.raise (.hostBusy 0x00000004)
  else act s

end Sys2Proof.Machine
end

