-- ==== Sys2Proof/Machine/Access.lean ====
section
/-! DEFINITION. The host accesses (spec/46_commands.md R169-R172, spec/20_memory.md R61-R66). -/

namespace Sys2Proof.Machine

/-- REG_READ (R170). -/
def execRegRead (r : Reg) (s : State) : Result :=
  .next (hostRead r.addr r.readable r.readableBusy (s.reg r) s)

/-- REG_WRITE (R170): config registers are locked outside UNCONFIGURED, IRQ_EN is not
(spec/20_memory.md R72). -/
def execRegWrite (r : Reg) (v : Word) (s : State) : Result :=
  .next (hostWrite r.addr r.writable r.config (fun s => s.setReg r v) s)

/-- ATH_READ (R171). -/
def execAthRead (i : Idx) (s : State) : Result :=
  .next (hostRead (BitVec.ofNat 32 (athAddr i.val)) true false ((s.ath i.val).setWidth 32) s)

/-- ATH_WRITE (R171). -/
def execAthWrite (i : Idx) (v : Byte) (s : State) : Result :=
  .next (hostWrite (BitVec.ofNat 32 (athAddr i.val)) true true
    (fun s => s.storeByte (athAddr i.val) v) s)

/-- CIPHER_READ (R171). -/
def execCipherRead (i : Fin 256) (s : State) : Result :=
  .next (hostRead (BitVec.ofNat 32 (cipherAddr i.val)) true false ((s.cipher i.val).setWidth 32) s)

/-- CIPHER_WRITE (R171). -/
def execCipherWrite (i : Fin 256) (v : Byte) (s : State) : Result :=
  .next (hostWrite (BitVec.ofNat 32 (cipherAddr i.val)) true true
    (fun s => s.storeByte (cipherAddr i.val) v) s)

/-- BLOCKBUF_READ (R171). -/
def execBlockbufRead (i : Fin 65535) (s : State) : Result :=
  .next (hostRead (BitVec.ofNat 32 (blockAddr i.val)) true false ((s.blockByte i.val).setWidth 32) s)

/-- BLOCKBUF_WRITE (R171): not locked by CONFIGURE (spec/20_memory.md R64). -/
def execBlockbufWrite (i : Fin 65535) (v : Byte) (s : State) : Result :=
  .next (hostWrite (BitVec.ofNat 32 (blockAddr i.val)) true false
    (fun s => s.storeByte (blockAddr i.val) v) s)

/-- PCMBUF_READ (R172). -/
def execPcmbufRead (w : Fin 16384) (s : State) : Result :=
  .next (hostRead (BitVec.ofNat 32 (0x20000 + 4 * w.val)) true false (pcmRead s.pcm w.val) s)

/-- BAD_ACCESS (spec/60_exceptions.md R179): refused in FAULTED, BadAccess otherwise. -/
def execBadAccess (a : Access) (s : State) : Result :=
  match a.dir with
  | .read => .next (hostRead a.addr false false 0 s)
  | .write _ => .next (hostWrite a.addr false false id s)

end Sys2Proof.Machine
end

