-- ==== Sys2Proof/Machine/Codes.lean ====
section
/-! DEFINITION. The code words as instructions: the bits each occupies and its value
(spec/30_encoding.md R96, R97; spec/42_dequant.md R129-R132). DEQUANT finds the same lengths and values by the
tables of R93-R95 (Machine/Dequant.lean). -/

namespace Sys2Proof.Machine

/-- CODE_R0: no bit, value 0 (R129). -/
def execCodeR0 (d : Slot) (s : State) : Result := .next (opCode d.ch.val d.i.val 0 0 s)

/-- CODE_R1_0: `0`, value 0 (R96). -/
def execCodeR1Zero (d : Slot) (s : State) : Result := .next (opCode d.ch.val d.i.val 1 0 s)

/-- CODE_R1_P1: `10`, value 1 (R96). -/
def execCodeR1P1 (d : Slot) (s : State) : Result := .next (opCode d.ch.val d.i.val 2 1 s)

/-- CODE_R1_M1: `11`, value -1 (R96). -/
def execCodeR1M1 (d : Slot) (s : State) : Result := .next (opCode d.ch.val d.i.val 2 (-1) s)

/-- CODE_R2_0: `00`, value 0 (R96). -/
def execCodeR2Zero (d : Slot) (s : State) : Result := .next (opCode d.ch.val d.i.val 2 0 s)

/-- CODE_R2_P1: `01`, value 1 (R96). -/
def execCodeR2P1 (d : Slot) (s : State) : Result := .next (opCode d.ch.val d.i.val 2 1 s)

/-- CODE_R2_M1: `10`, value -1 (R96). -/
def execCodeR2M1 (d : Slot) (s : State) : Result := .next (opCode d.ch.val d.i.val 2 (-1) s)

/-- CODE_R2_P2: `110`, value 2 (R96). -/
def execCodeR2P2 (d : Slot) (s : State) : Result := .next (opCode d.ch.val d.i.val 3 2 s)

/-- CODE_R2_M2: `111`, value -2 (R96). -/
def execCodeR2M2 (d : Slot) (s : State) : Result := .next (opCode d.ch.val d.i.val 3 (-2) s)

/-- CODE_R3_0: `00`, value 0 (R96). -/
def execCodeR3Zero (d : Slot) (s : State) : Result := .next (opCode d.ch.val d.i.val 2 0 s)

/-- CODE_R3_P1: `010`, value 1 (R96). -/
def execCodeR3P1 (d : Slot) (s : State) : Result := .next (opCode d.ch.val d.i.val 3 1 s)

/-- CODE_R3_M1: `011`, value -1 (R96). -/
def execCodeR3M1 (d : Slot) (s : State) : Result := .next (opCode d.ch.val d.i.val 3 (-1) s)

/-- CODE_R3_P2: `100`, value 2 (R96). -/
def execCodeR3P2 (d : Slot) (s : State) : Result := .next (opCode d.ch.val d.i.val 3 2 s)

/-- CODE_R3_M2: `101`, value -2 (R96). -/
def execCodeR3M2 (d : Slot) (s : State) : Result := .next (opCode d.ch.val d.i.val 3 (-2) s)

/-- CODE_R3_P3: `110`, value 3 (R96). -/
def execCodeR3P3 (d : Slot) (s : State) : Result := .next (opCode d.ch.val d.i.val 3 3 s)

/-- CODE_R3_M3: `111`, value -3 (R96). -/
def execCodeR3M3 (d : Slot) (s : State) : Result := .next (opCode d.ch.val d.i.val 3 (-3) s)

/-- CODE_R4_0: `000`, value 0 (R96). -/
def execCodeR4Zero (d : Slot) (s : State) : Result := .next (opCode d.ch.val d.i.val 3 0 s)

/-- CODE_R4_P1: `001`, value 1 (R96). -/
def execCodeR4P1 (d : Slot) (s : State) : Result := .next (opCode d.ch.val d.i.val 3 1 s)

/-- CODE_R4_M1: `010`, value -1 (R96). -/
def execCodeR4M1 (d : Slot) (s : State) : Result := .next (opCode d.ch.val d.i.val 3 (-1) s)

/-- CODE_R4_P2: `011`, value 2 (R96). -/
def execCodeR4P2 (d : Slot) (s : State) : Result := .next (opCode d.ch.val d.i.val 3 2 s)

/-- CODE_R4_M2: `100`, value -2 (R96). -/
def execCodeR4M2 (d : Slot) (s : State) : Result := .next (opCode d.ch.val d.i.val 3 (-2) s)

/-- CODE_R4_P3: `101`, value 3 (R96). -/
def execCodeR4P3 (d : Slot) (s : State) : Result := .next (opCode d.ch.val d.i.val 3 3 s)

/-- CODE_R4_M3: `110`, value -3 (R96). -/
def execCodeR4M3 (d : Slot) (s : State) : Result := .next (opCode d.ch.val d.i.val 3 (-3) s)

/-- CODE_R4_P4: `1110`, value 4 (R96). -/
def execCodeR4P4 (d : Slot) (s : State) : Result := .next (opCode d.ch.val d.i.val 4 4 s)

/-- CODE_R4_M4: `1111`, value -4 (R96). -/
def execCodeR4M4 (d : Slot) (s : State) : Result := .next (opCode d.ch.val d.i.val 4 (-4) s)

/-- CODE_R5_0: `000`, value 0 (R96). -/
def execCodeR5Zero (d : Slot) (s : State) : Result := .next (opCode d.ch.val d.i.val 3 0 s)

/-- CODE_R5_P1: `001`, value 1 (R96). -/
def execCodeR5P1 (d : Slot) (s : State) : Result := .next (opCode d.ch.val d.i.val 3 1 s)

/-- CODE_R5_M1: `010`, value -1 (R96). -/
def execCodeR5M1 (d : Slot) (s : State) : Result := .next (opCode d.ch.val d.i.val 3 (-1) s)

/-- CODE_R5_P2: `011`, value 2 (R96). -/
def execCodeR5P2 (d : Slot) (s : State) : Result := .next (opCode d.ch.val d.i.val 3 2 s)

/-- CODE_R5_M2: `100`, value -2 (R96). -/
def execCodeR5M2 (d : Slot) (s : State) : Result := .next (opCode d.ch.val d.i.val 3 (-2) s)

/-- CODE_R5_P3: `1010`, value 3 (R96). -/
def execCodeR5P3 (d : Slot) (s : State) : Result := .next (opCode d.ch.val d.i.val 4 3 s)

/-- CODE_R5_M3: `1011`, value -3 (R96). -/
def execCodeR5M3 (d : Slot) (s : State) : Result := .next (opCode d.ch.val d.i.val 4 (-3) s)

/-- CODE_R5_P4: `1100`, value 4 (R96). -/
def execCodeR5P4 (d : Slot) (s : State) : Result := .next (opCode d.ch.val d.i.val 4 4 s)

/-- CODE_R5_M4: `1101`, value -4 (R96). -/
def execCodeR5M4 (d : Slot) (s : State) : Result := .next (opCode d.ch.val d.i.val 4 (-4) s)

/-- CODE_R5_P5: `1110`, value 5 (R96). -/
def execCodeR5P5 (d : Slot) (s : State) : Result := .next (opCode d.ch.val d.i.val 4 5 s)

/-- CODE_R5_M5: `1111`, value -5 (R96). -/
def execCodeR5M5 (d : Slot) (s : State) : Result := .next (opCode d.ch.val d.i.val 4 (-5) s)

/-- CODE_R6_0: `000`, value 0 (R96). -/
def execCodeR6Zero (d : Slot) (s : State) : Result := .next (opCode d.ch.val d.i.val 3 0 s)

/-- CODE_R6_P1: `001`, value 1 (R96). -/
def execCodeR6P1 (d : Slot) (s : State) : Result := .next (opCode d.ch.val d.i.val 3 1 s)

/-- CODE_R6_M1: `010`, value -1 (R96). -/
def execCodeR6M1 (d : Slot) (s : State) : Result := .next (opCode d.ch.val d.i.val 3 (-1) s)

/-- CODE_R6_P2: `0110`, value 2 (R96). -/
def execCodeR6P2 (d : Slot) (s : State) : Result := .next (opCode d.ch.val d.i.val 4 2 s)

/-- CODE_R6_M2: `0111`, value -2 (R96). -/
def execCodeR6M2 (d : Slot) (s : State) : Result := .next (opCode d.ch.val d.i.val 4 (-2) s)

/-- CODE_R6_P3: `1000`, value 3 (R96). -/
def execCodeR6P3 (d : Slot) (s : State) : Result := .next (opCode d.ch.val d.i.val 4 3 s)

/-- CODE_R6_M3: `1001`, value -3 (R96). -/
def execCodeR6M3 (d : Slot) (s : State) : Result := .next (opCode d.ch.val d.i.val 4 (-3) s)

/-- CODE_R6_P4: `1010`, value 4 (R96). -/
def execCodeR6P4 (d : Slot) (s : State) : Result := .next (opCode d.ch.val d.i.val 4 4 s)

/-- CODE_R6_M4: `1011`, value -4 (R96). -/
def execCodeR6M4 (d : Slot) (s : State) : Result := .next (opCode d.ch.val d.i.val 4 (-4) s)

/-- CODE_R6_P5: `1100`, value 5 (R96). -/
def execCodeR6P5 (d : Slot) (s : State) : Result := .next (opCode d.ch.val d.i.val 4 5 s)

/-- CODE_R6_M5: `1101`, value -5 (R96). -/
def execCodeR6M5 (d : Slot) (s : State) : Result := .next (opCode d.ch.val d.i.val 4 (-5) s)

/-- CODE_R6_P6: `1110`, value 6 (R96). -/
def execCodeR6P6 (d : Slot) (s : State) : Result := .next (opCode d.ch.val d.i.val 4 6 s)

/-- CODE_R6_M6: `1111`, value -6 (R96). -/
def execCodeR6M6 (d : Slot) (s : State) : Result := .next (opCode d.ch.val d.i.val 4 (-6) s)

/-- CODE_R7_0: `000`, value 0 (R96). -/
def execCodeR7Zero (d : Slot) (s : State) : Result := .next (opCode d.ch.val d.i.val 3 0 s)

/-- CODE_R7_P1: `0010`, value 1 (R96). -/
def execCodeR7P1 (d : Slot) (s : State) : Result := .next (opCode d.ch.val d.i.val 4 1 s)

/-- CODE_R7_M1: `0011`, value -1 (R96). -/
def execCodeR7M1 (d : Slot) (s : State) : Result := .next (opCode d.ch.val d.i.val 4 (-1) s)

/-- CODE_R7_P2: `0100`, value 2 (R96). -/
def execCodeR7P2 (d : Slot) (s : State) : Result := .next (opCode d.ch.val d.i.val 4 2 s)

/-- CODE_R7_M2: `0101`, value -2 (R96). -/
def execCodeR7M2 (d : Slot) (s : State) : Result := .next (opCode d.ch.val d.i.val 4 (-2) s)

/-- CODE_R7_P3: `0110`, value 3 (R96). -/
def execCodeR7P3 (d : Slot) (s : State) : Result := .next (opCode d.ch.val d.i.val 4 3 s)

/-- CODE_R7_M3: `0111`, value -3 (R96). -/
def execCodeR7M3 (d : Slot) (s : State) : Result := .next (opCode d.ch.val d.i.val 4 (-3) s)

/-- CODE_R7_P4: `1000`, value 4 (R96). -/
def execCodeR7P4 (d : Slot) (s : State) : Result := .next (opCode d.ch.val d.i.val 4 4 s)

/-- CODE_R7_M4: `1001`, value -4 (R96). -/
def execCodeR7M4 (d : Slot) (s : State) : Result := .next (opCode d.ch.val d.i.val 4 (-4) s)

/-- CODE_R7_P5: `1010`, value 5 (R96). -/
def execCodeR7P5 (d : Slot) (s : State) : Result := .next (opCode d.ch.val d.i.val 4 5 s)

/-- CODE_R7_M5: `1011`, value -5 (R96). -/
def execCodeR7M5 (d : Slot) (s : State) : Result := .next (opCode d.ch.val d.i.val 4 (-5) s)

/-- CODE_R7_P6: `1100`, value 6 (R96). -/
def execCodeR7P6 (d : Slot) (s : State) : Result := .next (opCode d.ch.val d.i.val 4 6 s)

/-- CODE_R7_M6: `1101`, value -6 (R96). -/
def execCodeR7M6 (d : Slot) (s : State) : Result := .next (opCode d.ch.val d.i.val 4 (-6) s)

/-- CODE_R7_P7: `1110`, value 7 (R96). -/
def execCodeR7P7 (d : Slot) (s : State) : Result := .next (opCode d.ch.val d.i.val 4 7 s)

/-- CODE_R7_M7: `1111`, value -7 (R96). -/
def execCodeR7M7 (d : Slot) (s : State) : Result := .next (opCode d.ch.val d.i.val 4 (-7) s)

/-- The value of a magnitude and a sign (R97). -/
def signed (mag : Nat) (neg : Bool) : Int := if neg then -(mag : Int) else mag

/-- CODE_R8_ZERO: 4 zero bits; the bit after them is not part of the code (R97, R131). -/
def execCodeR8Zero (d : Slot) (s : State) : Result := .next (opCode d.ch.val d.i.val 4 0 s)

/-- CODE_R8_MAG: 4 bits of magnitude, not all zero, and a sign (R97, R131). -/
def execCodeR8Mag (d : Slot) (mag : BitVec 4) (neg : Bool) (s : State) : Result :=
  .next (opCode d.ch.val d.i.val 5 (signed mag.toNat neg) s)

/-- CODE_R9_ZERO: 5 zero bits; the bit after them is not part of the code (R97, R131). -/
def execCodeR9Zero (d : Slot) (s : State) : Result := .next (opCode d.ch.val d.i.val 5 0 s)

/-- CODE_R9_MAG: 5 bits of magnitude, not all zero, and a sign (R97, R131). -/
def execCodeR9Mag (d : Slot) (mag : BitVec 5) (neg : Bool) (s : State) : Result :=
  .next (opCode d.ch.val d.i.val 6 (signed mag.toNat neg) s)

/-- CODE_R10_ZERO: 6 zero bits; the bit after them is not part of the code (R97, R131). -/
def execCodeR10Zero (d : Slot) (s : State) : Result := .next (opCode d.ch.val d.i.val 6 0 s)

/-- CODE_R10_MAG: 6 bits of magnitude, not all zero, and a sign (R97, R131). -/
def execCodeR10Mag (d : Slot) (mag : BitVec 6) (neg : Bool) (s : State) : Result :=
  .next (opCode d.ch.val d.i.val 7 (signed mag.toNat neg) s)

/-- CODE_R11_ZERO: 7 zero bits; the bit after them is not part of the code (R97, R131). -/
def execCodeR11Zero (d : Slot) (s : State) : Result := .next (opCode d.ch.val d.i.val 7 0 s)

/-- CODE_R11_MAG: 7 bits of magnitude, not all zero, and a sign (R97, R131). -/
def execCodeR11Mag (d : Slot) (mag : BitVec 7) (neg : Bool) (s : State) : Result :=
  .next (opCode d.ch.val d.i.val 8 (signed mag.toNat neg) s)

/-- CODE_R12_ZERO: 8 zero bits; the bit after them is not part of the code (R97, R131). -/
def execCodeR12Zero (d : Slot) (s : State) : Result := .next (opCode d.ch.val d.i.val 8 0 s)

/-- CODE_R12_MAG: 8 bits of magnitude, not all zero, and a sign (R97, R131). -/
def execCodeR12Mag (d : Slot) (mag : BitVec 8) (neg : Bool) (s : State) : Result :=
  .next (opCode d.ch.val d.i.val 9 (signed mag.toNat neg) s)

/-- CODE_R13_ZERO: 9 zero bits; the bit after them is not part of the code (R97, R131). -/
def execCodeR13Zero (d : Slot) (s : State) : Result := .next (opCode d.ch.val d.i.val 9 0 s)

/-- CODE_R13_MAG: 9 bits of magnitude, not all zero, and a sign (R97, R131). -/
def execCodeR13Mag (d : Slot) (mag : BitVec 9) (neg : Bool) (s : State) : Result :=
  .next (opCode d.ch.val d.i.val 10 (signed mag.toNat neg) s)

/-- CODE_R14_ZERO: 10 zero bits; the bit after them is not part of the code (R97, R131). -/
def execCodeR14Zero (d : Slot) (s : State) : Result := .next (opCode d.ch.val d.i.val 10 0 s)

/-- CODE_R14_MAG: 10 bits of magnitude, not all zero, and a sign (R97, R131). -/
def execCodeR14Mag (d : Slot) (mag : BitVec 10) (neg : Bool) (s : State) : Result :=
  .next (opCode d.ch.val d.i.val 11 (signed mag.toNat neg) s)

/-- CODE_R15_ZERO: 11 zero bits; the bit after them is not part of the code (R97, R131). -/
def execCodeR15Zero (d : Slot) (s : State) : Result := .next (opCode d.ch.val d.i.val 11 0 s)

/-- CODE_R15_MAG: 11 bits of magnitude, not all zero, and a sign (R97, R131). -/
def execCodeR15Mag (d : Slot) (mag : BitVec 11) (neg : Bool) (s : State) : Result :=
  .next (opCode d.ch.val d.i.val 12 (signed mag.toNat neg) s)

end Sys2Proof.Machine
end

