-- ==== Sys2Proof/Machine/Commands.lean ====
section
/-! DEFINITION. The host commands (spec/46_commands.md R160-R168). -/

namespace Sys2Proof.Machine

/-- The number of the first check of CONFIGURE that fails (spec/46_commands.md R163). -/
def State.configCheck (s : State) : Option Nat :=
  if ¬(1 ≤ s.channels.toNat ∧ s.channels.toNat ≤ 16) then some 1
  else if ¬(8 ≤ s.blockSize.toNat ∧ s.blockSize.toNat ≤ 65535) then some 2
  else if ¬(s.r01.toNat ≤ s.r02.toNat ∧ s.r02.toNat ≤ 31) then some 3
  else if ¬(1 ≤ s.r03.toNat ∧ s.r03.toNat ≤ 255 ∧ s.r04.toNat ≤ 255) then some 4
  else if ¬(s.r05.toNat ≤ 128 ∧ s.r06.toNat ≤ 255 ∧ s.r07.toNat ≤ 255 ∧ s.r08.toNat ≤ 255) then some 5
  else if ¬(s.r06.toNat + s.r07.toNat ≤ s.r05.toNat) then some 6
  else if ¬(fFinite s.volume = true) then some 7
  else if ¬(s.pcmFormat.toNat ≤ 4) then some 8
  else none

/-- The type of the channel at offset `o` of a track of `b` channels (spec/30_encoding.md R92). -/
def trackType (b r04 o : Nat) : ChanType :=
  if b ≤ 1 ∨ 8 < b then .discrete
  else if o = 0 then .primary
  else if o = 1 then .secondary
  else if b = 4 ∧ r04 = 0 then (if o = 2 then .primary else .secondary)
  else if b = 5 ∧ r04 ≤ 2 then (if o = 3 then .primary else if o = 4 then .secondary else .discrete)
  else if b = 6 ∨ b = 7 then (if o = 4 then .primary else if o = 5 then .secondary else .discrete)
  else if b = 8 then
    (if o = 4 ∨ o = 6 then .primary else if o = 5 ∨ o = 7 then .secondary else .discrete)
  else .discrete

/-- The channel-type assignment (spec/30_encoding.md R92) for channel `ch` of `c`: channels past the last
whole track stay type 0. -/
def assignType (c r03 r04 r07 ch : Nat) : ChanType :=
  let b := c / r03
  if r07 ≠ 0 ∧ 1 < b ∧ ch / b < r03 then trackType b r04 (ch % b) else .discrete

/-- The least q with q x b >= a, for b > 0 (spec/00_scope.md R7). -/
def ceilDiv (a b : Nat) : Nat := (a + b - 1) / b

/-- The HFR group count (spec/10_state.md R34). -/
def State.hfrGroups (s : State) : Nat :=
  if s.r08.toNat = 0 then 0
  else ceilDiv (s.r05.toNat - (s.r06.toNat + s.r07.toNat)) s.r08.toNat

/-- TYPE[ch] by the present configuration. -/
def State.typeOf (s : State) (ch : Nat) : ChanType :=
  assignType s.channels.toNat s.r03.toNat s.r04.toNat s.r07.toNat ch

/-- COUNT[ch] by the present configuration (spec/10_state.md R38). -/
def State.countOf (s : State) (ch : Nat) : Nat :=
  s.r06.toNat + (if s.typeOf ch = .secondary then 0 else s.r07.toNat)

/-- CHTYPE by the present configuration: the sum of TYPE[ch] x 4^ch (spec/46_commands.md R164). -/
def State.chTypeOf (s : State) : Word :=
  BitVec.ofNat 32 ((List.range s.channels.toNat).map fun ch => typeCode (s.typeOf ch) * 4 ^ ch).sum

/-- TYPE and COUNT of channels 0..C-1 by the present configuration. -/
def State.assignChannels (s : State) : State :=
  (List.range s.channels.toNat).foldl
    (fun t ch => t.modChan ch fun k => { k with type := s.typeOf ch, count := s.countOf ch }) s

/-- CONFIGURE in UNCONFIGURED (spec/46_commands.md R163, R164). -/
def opConfigure (s : State) : State :=
  match s.configCheck with
  | some n => s.raise (.badConfig n)
  | none =>
    { s.assignChannels with
      r09 := BitVec.ofNat 32 s.hfrGroups
      chType := s.chTypeOf
      phase := .configured
      done := true }

/-- NOP (R162). -/
def execNop (s : State) : Result := .next (hostCommand id s)

/-- RESET, in every phase (R165). -/
def execReset (s : State) : Result := .next s.resetAll

/-- CONFIGURE (R160, R163, R164). -/
def execConfigure (s : State) : Result :=
  .next (hostCommand
    (fun s => if s.phase = .unconfigured then opConfigure s else s.raise (.configLocked 0x00000002)) s)

/-- DECODE_BLOCK, its acceptance (R160, R166); the decoder step of R167 is the decoder's. -/
def execDecodeBlock (s : State) : Result :=
  .next (hostCommand
    (fun s =>
      if s.phase = .unconfigured then s.raise .notConfigured
      else { s with done := false, phase := .busy }) s)

/-- ACK (R168). -/
def execAck (s : State) : Result := .next (hostCommand (fun s => { s with done := false }) s)

/-- Every reserved command word (spec/30_encoding.md R81, spec/60_exceptions.md R174). -/
def execReservedCmd (x : Word) (s : State) : Result :=
  .next (hostCommand (fun s => s.raise (.illegalCommand x)) s)

end Sys2Proof.Machine
end

