-- ==== Sys2Proof/Machine/Dequant.lean ====
section
/-! DEFINITION. Stage 2: code extraction and dequantization (spec/42_dequant.md R128-R133). -/

namespace Sys2Proof.Machine

/-- SMALL(s, code): length and value of a code of resolution 0..7 (R129, R130). -/
def smallCode (s code : Nat) : Nat × Int := (codeLen s code, qVal s code)

/-- LARGE(w, code): length and value of a code of peek width w (R131). -/
def largeCode (w code : Nat) : Nat × Int :=
  let m := code / 2
  (if m = 0 then w - 1 else w, if code % 2 = 1 then -(m : Int) else m)

/-- One coefficient (R128): peek, look the code up, advance, multiply. -/
def dequantStep (ch i : Nat) (s : State) : State :=
  let r := (entry (s.chan ch).res i).toNat
  let code := s.peek (maxBits r)
  let lq := if r < 8 then smallCode r code else largeCode (maxBits r) code
  opCode ch i lq.1 lq.2 s

/-- The coefficients 0..COUNT-1 of one channel in order (R128). -/
def dequantCodes (ch : Nat) (s : State) : State :=
  (List.range (s.chan ch).count).foldl (fun s i => dequantStep ch i s) s

/-- Zero fill (R133). -/
def zeroFill (ch : Nat) (s : State) : State :=
  s.modChan ch fun k => { k with spec := fillRange k.spec k.count (128 - k.count) fun _ => 0 }

/-- DEQUANT of one channel in one subframe (R128). -/
def dequant (ch : Nat) (s : State) : State := zeroFill ch (dequantCodes ch s)

/-- DEQUANT (R128-R133). The subframe selects nothing: each subframe's codes start where the last one's
ended (spec/30_encoding.md R90). -/
def execDequant (ch : Chan) (_sf : Sub) (s : State) : Result := .next (dequant ch.val s)

end Sys2Proof.Machine
end

