-- ==== Sys2Proof/Machine/Pcm.lean ====
section
/-! DEFINITION. The PCM output stage (spec/45_pcm.md R150-R158). -/

namespace Sys2Proof.Machine

/-- The clamp to [-1, 1] of a sample that is not NaN (R152). -/
def clampSample (f : F32) : F32 :=
  if flt 0x3F800000 f then 0x3F800000 else if flt f 0xBF800000 then 0xBF800000 else f

/-- The word of a clamped sample in a format (R153-R157). CONFIGURE allows formats 0..4 only; any other value
is read as 4 (log 13). -/
def convertSample (fmt : Nat) (f : F32) : Word :=
  if fmt = 0 then BitVec.ofInt 32 (fTrunc (fmul f 0x46FFFE00))
  else if fmt = 1 then BitVec.ofInt 32 (fTrunc (fmul f 0x42FE0000) + 128)
  else if fmt = 2 then BitVec.ofInt 32 (fTrunc (fmul f 0x4AFFFFFE))
  else if fmt = 3 then BitVec.ofInt 32 (min (fTrunc (fmul f 0x4F000000)) 2147483647)
  else f

/-- The word of one sample of WAVE (R151-R157), or none where it is NaN. -/
def sampleWord (volume : F32) (fmt : Nat) (x : F32) : Option Word :=
  if fIsNaN (fmul x volume) then none else some (convertSample fmt (clampSample (fmul x volume)))

/-- WAVE[ch][sf][j]. -/
def State.wave (s : State) (ch sf j : Nat) : F32 :=
  entry ((s.chan ch).wave[sf]?.getD (Vector.replicate 128 0)) j

/-- The samples of a block in the order of R150: sf, then j, then ch. -/
def sampleOrder (c : Nat) : List (Nat × Nat × Nat) :=
  (List.range 8).flatMap fun sf =>
    (List.range 128).flatMap fun j => (List.range c).map fun ch => (sf, j, ch)

/-- The word index of a sample (R158). -/
def sampleIndex (c sf j ch : Nat) : Nat := (sf * 128 + j) * c + ch

/-- The words of the listed samples stored one after the other, or the fault of the first NaN (R150, R152). -/
def pcmRun (s : State) (c : Nat) : List (Nat × Nat × Nat) → Cells 32 → Except Cause (Cells 32)
  | [], p => .ok p
  | (sf, j, ch) :: rest, p =>
    match sampleWord s.volume s.pcmFormat.toNat (s.wave ch sf j) with
    | none => .error (.nonFiniteSample ch sf j)
    | some w => pcmRun s c rest (pcmWrite p (sampleIndex c sf j ch) w)

/-- PCM_OUT (R150): PCMBUF is written only if no sample raised a fault. -/
def pcmOut (s : State) : State :=
  let c := s.channels.toNat
  match pcmRun s c (sampleOrder c) s.pcm with
  | .ok p => { s with pcm := p }
  | .error f => s.raise f

/-- PCM_OUT (R150-R158). -/
def execPcmOut (s : State) : Result := .next (pcmOut s)

end Sys2Proof.Machine
end

