-- ==== Sys2Proof/Machine/Reconstruct.lean ====
section
/-! DEFINITION. Stages 3 and 4: high-band reconstruction and intensity stereo (spec/43_reconstruct.md
R134-R139). -/

namespace Sys2Proof.Machine

/-- The inner loop of R135 for the scale `scale` of one group: `k` ascends, the source `l` descends; it ends
at R05 or by HfrUnderflow. -/
def hfrGroup (ch : Nat) (scale : BitVec 6) : Nat → Nat × Int × State → Nat × Int × State
  | 0, x => x
  | j + 1, (k, l, s) =>
    if s.r05.toNat ≤ k then (k, l, s)
    else if l < 0 then (k, l, s.raise (.hfrUnderflow ch k))
    else
      let c := s.chan ch
      let d : Int := (scale.toNat : Int) - (entry c.sf l.toNat).toNat
      let x := fmul (hfrRatio d) (entry c.spec l.toNat)
      hfrGroup ch scale j
        (k + 1, l - 1, s.modChan ch fun c => { c with spec := c.spec.setIfInBounds k x })

/-- The loop over the HFR groups (R135), ended by a fault. -/
def hfrLoop (ch : Nat) (s : State) : State :=
  let c := s.r06.toNat + s.r07.toNat
  ((List.range s.r09.toNat).foldl
    (fun x g =>
      if x.2.2.phase = .faulted then x
      else hfrGroup ch (entry (x.2.2.chan ch).sf (c + g)) s.r08.toNat x)
    (c, (c : Int) - 1, s)).2.2

/-- The clear of SPEC[ch][127] after the loop (R136). -/
def hfrTopClear (ch : Nat) (s : State) : State :=
  s.modChan ch fun k => { k with spec := k.spec.setIfInBounds 127 0 }

/-- HFR of one channel (R134-R136): for types 0 and 1 when R08 is not 0. -/
def hfr (ch : Nat) (s : State) : State :=
  if (s.chan ch).type ≠ .secondary ∧ s.r08.toNat ≠ 0 then (hfrLoop ch s).andThen (hfrTopClear ch)
  else s

/-- HFR (R134-R136). -/
def execHfr (ch : Chan) (s : State) : Result := .next (hfr ch.val s)

/-- The intensity gate (R137). -/
def gateOpen (p : Config.Params) (r07 : Nat) (int : BitVec 4) : Bool :=
  match p.gate with
  | .headerBands => decide (r07 ≠ 0)
  | .subframeNonzero => decide (int ≠ 0)

/-- The secondary factor r2 of r1 (R137). -/
def secondaryFactor (p : Config.Params) (r1 : F32) : F32 :=
  match p.factor with
  | .r1Minus2 => fsub r1 0x40000000
  | .twoMinusR1 => fsub 0x40000000 r1

/-- One coefficient of R138: the secondary's is written first, both from the value read before. -/
def intensityStep (ch : Nat) (r1 r2 : F32) (i : Nat) (s : State) : State :=
  let a := entry (s.chan ch).spec i
  let s := s.modChan (ch + 1) fun k => { k with spec := k.spec.setIfInBounds i (fmul a r2) }
  s.modChan ch fun k => { k with spec := k.spec.setIfInBounds i (fmul a r1) }

/-- INTENSITY of one channel in one subframe (R137, R138): for type 1 with the gate open. -/
def intensity (p : Config.Params) (ch sf : Nat) (s : State) : State :=
  let int := entry (s.chan (ch + 1)).int sf
  if (s.chan ch).type = .primary ∧ gateOpen p s.r07.toNat int then
    let r1 := intRatio int.toNat
    let r2 := secondaryFactor p r1
    (List.range' s.r06.toNat (s.r05.toNat - s.r06.toNat)).foldl
      (fun s i => intensityStep ch r1 r2 i s) s
  else s

/-- INTENSITY (R137, R138). -/
def execIntensity (ch : Chan) (sf : Sub) (s : State) : Result :=
  .next (intensity Config.params ch.val sf.val s)

end Sys2Proof.Machine
end

