-- ==== Sys2Proof/Machine/Stage1.lean ====
section
/-! DEFINITION. Stage 1: the side information of one channel and the derivation of its resolutions and base
multipliers (spec/41_side_info.md R115-R126). -/

namespace Sys2Proof.Machine

/-- One scale factor of delta mode (R118): an escape or a delta. -/
def deltaStep (ch m i : Nat) (s : State) : State :=
  if s.peek m = 2 ^ m - 1 then opSfEscape ch i m (BitVec.ofNat 6 (s.reader m 6)) s
  else opSfDelta ch i m (s.peek m) s

/-- SF_DELTA as a whole (R118): the first value, then COUNT - 1 delta codes. -/
def sfDeltaRun (ch m : Nat) (s : State) : State :=
  forEach (List.range' 1 ((s.chan ch).count - 1)) (deltaStep ch m)
    (opSfFirst ch (BitVec.ofNat 6 (s.peek 6)) s)

/-- The scale factors of one channel (R115): the mode, then one of R116, R117 and R118. -/
def scaleFactors (ch : Nat) (s : State) : State :=
  let mode := s.peek 3
  let s := opSfmode s
  if mode = 0 then opSfZero ch s
  else if 6 ≤ mode then opSfRaw ch (fieldList s.reader 6 (s.chan ch).count) s
  else sfDeltaRun ch mode s

/-- The intensity field of a type-2 channel (R120). -/
def intensityField (ch : Nat) (s : State) : State :=
  if s.peek 4 < 15 then opIntensitySet ch (fieldList s.reader 4 8) s else opIntensityAll15 ch s

/-- The channel extension field: R120 for type 2, R121 for types 0 and 1. -/
def extension (ch : Nat) (s : State) : State :=
  if (s.chan ch).type = .secondary then intensityField ch s
  else opHfrScale ch (fieldList s.reader 6 s.r09.toNat) s

/-- The threshold index t of R123; `/ 256` on integers is the floor, the arithmetic shift of R7. -/
def threshold (ath : Byte) (noise : Int) (i : Nat) (v : BitVec 6) : Int :=
  (ath.toNat : Int) + (noise + i) / 256 - (5 * v.toNat / 2 : Nat) + 1

/-- The resolution of a coefficient (R122, R123). -/
def resolution (ath : Byte) (noise : Int) (i : Nat) (v : BitVec 6) : BitVec 4 :=
  let t := threshold ath noise i v
  if v = 0 then 0 else if t < 0 then 15 else if 57 ≤ t then 1 else invert t.toNat

/-- RES of one channel (R122-R124): derived below COUNT, cleared from COUNT on. -/
def resArray (s : State) (k : Channel) : Vector (BitVec 4) 128 :=
  fillRange (fillRange k.res 0 k.count fun i => resolution (s.ath i) s.noise i (entry k.sf i))
    k.count (128 - k.count) fun _ => 0

/-- BASE of one channel (R125), from the resolutions just derived. -/
def baseArray (k : Channel) (res : Vector (BitVec 4) 128) : Vector F32 128 :=
  fillRange k.base 0 k.count fun i =>
    fmul (dqStep (entry k.sf i).toNat) (resStep (entry res i).toNat)

/-- R122-R125 for one channel. -/
def derive (ch : Nat) (s : State) : State :=
  s.modChan ch fun k => { k with res := resArray s k, base := baseArray k (resArray s k) }

/-- STAGE1 of one channel, in the order of R126. -/
def stage1 (ch : Nat) (s : State) : State :=
  ((scaleFactors ch s).andThen (extension ch)).andThen (derive ch)

/-- STAGE1 (R115-R126). -/
def execStage1 (ch : Chan) (s : State) : Result := .next (stage1 ch.val s)

end Sys2Proof.Machine
end

