-- ==== Sys2Proof/Machine/Synthesis.lean ====
section
/-! DEFINITION. Stage 5: the synthesis filterbank (spec/44_synthesis.md R141-R147). -/

namespace Sys2Proof.Machine

/-- The index pairs of `for j in 0..c1-1: for k in 0..c2-1`. -/
def loop2 (c1 c2 : Nat) : List (Nat × Nat) :=
  (List.range c1).flatMap fun j => (List.range c2).map fun k => (j, k)

/-- One level of BUTTERFLY (R141): `dst` after it, from `src`. -/
def butterflyLevel (lv : Nat) (src dst : Vector F32 128) : Vector F32 128 :=
  let c1 := 2 ^ lv
  let c2 := 64 >>> lv
  (loop2 c1 c2).foldl
    (fun dst jk =>
      let n := jk.1 * c2 + jk.2
      let a := entry src (2 * n)
      let b := entry src (2 * n + 1)
      (dst.setIfInBounds (jk.1 * (2 * c2) + jk.2) (fadd b a)).setIfInBounds
        (jk.1 * (2 * c2) + c2 + jk.2) (fsub a b)) dst

/-- One level of ROTATION (R143): `dst` after it, from `src`. -/
def rotationLevel (p : Config.Params) (lv : Nat) (src dst : Vector F32 128) : Vector F32 128 :=
  let c1 := 64 >>> lv
  let c2 := 2 ^ lv
  (loop2 c1 c2).foldl
    (fun dst jk =>
      let base := jk.1 * (2 * c2)
      let t := jk.1 * c2 + jk.2
      let a := entry src (base + jk.2)
      let b := entry src (base + c2 + jk.2)
      let s := p.synthSin lv t
      let c := p.synthCos lv t
      (dst.setIfInBounds (base + jk.2) (fsub (fmul a s) (fmul b c))).setIfInBounds
        (base + 2 * c2 - 1 - jk.2) (fadd (fmul a c) (fmul b s))) dst

/-- The seven levels of a pass from (src, dst), the two buffers swapped after each level (R142): the answer is
(src, dst) at the end, so the output stands in the first. -/
def passLevels (level : Nat → Vector F32 128 → Vector F32 128 → Vector F32 128)
    (b : Vector F32 128 × Vector F32 128) : Vector F32 128 × Vector F32 128 :=
  (List.range 7).foldl (fun b lv => (level lv b.1 b.2, b.1)) b

/-- Both passes (R141-R143): stage A from SPEC and WAV1, stage B from the buffers stage A leaves. The answer is
(SPEC, WAV1). -/
def transform (p : Config.Params) (spec wav1 : Vector F32 128) : Vector F32 128 × Vector F32 128 :=
  passLevels (rotationLevel p) (passLevels butterflyLevel (spec, wav1))

/-- WAVE[ch][sf] (R146). -/
def outputWave (p : Config.Params) (wav2 wav3 old : Vector F32 128) : Vector F32 128 :=
  fillRange
    (fillRange old 0 64 fun i =>
      fadd (fmul (entry wav2 (64 + i)) (p.synthWindow i)) (entry wav3 i))
    64 64 fun i => fsub (fmul (p.synthWindow i) (entry wav2 (191 - i))) (entry wav3 i)

/-- The new WAV3 (R147). -/
def overlap (p : Config.Params) (wav2 old : Vector F32 128) : Vector F32 128 :=
  fillRange
    (fillRange old 0 64 fun i => fmul (entry wav2 (63 - i)) (p.synthWindow (127 - i)))
    64 64 fun i => fmul (p.synthWindow (127 - i)) (entry wav2 (i - 64))

/-- SYNTH on one channel (R141-R147): transform, copy to WAV2, output with the old WAV3, then the new WAV3. -/
def synthChannel (p : Config.Params) (sf : Nat) (k : Channel) : Channel :=
  let t := transform p k.spec k.wav1
  { k with
    spec := t.1
    wav1 := t.2
    wav2 := t.1
    wave := k.wave.setIfInBounds sf
      (outputWave p t.1 k.wav3 (k.wave[sf]?.getD (Vector.replicate 128 0)))
    wav3 := overlap p t.1 k.wav3 }

/-- SYNTH of one channel in one subframe. -/
def synth (p : Config.Params) (ch sf : Nat) (s : State) : State := s.modChan ch (synthChannel p sf)

/-- SYNTH (R141-R147). -/
def execSynth (ch : Chan) (sf : Sub) (s : State) : Result :=
  .next (synth Config.params ch.val sf.val s)

end Sys2Proof.Machine
end

