-- ==== Sys2Proof/Machine/Decoder.lean ====
section
/-! DEFINITION. The decoder step: DESCRAMBLE, BLOCK_START and the body of a DECODE_BLOCK
(spec/46_commands.md R161, R167). -/

namespace Sys2Proof.Machine

/-- DESCRAMBLE (spec/40_bitreader.md R105): each byte of the block once, in order. -/
def descramble (s : State) : State :=
  (List.range s.blockSize.toNat).foldl
    (fun s i => s.storeByte (blockAddr i) (s.cipher (s.blockByte i).toNat)) s

/-- DESCRAMBLE (R105). -/
def execDescramble (s : State) : Result := .next (descramble s)

/-- BLOCK_START (spec/40_bitreader.md R111). -/
def blockStart (s : State) : State := { s with bitLimit := 8 * s.blockSize.toNat - 16, bitPos := 0 }

/-- BLOCK_START (R111). -/
def execBlockStart (s : State) : Result := .next (blockStart s)

/-- The sync field at the present position (spec/41_side_info.md R113). -/
def syncField (s : State) : State := opSync (BitVec.ofNat 16 (s.peek 16)) s

/-- The noise fields at the present position (spec/41_side_info.md R114). -/
def noiseField (s : State) : State :=
  opNoise (BitVec.ofNat 9 (s.peek 9)) (BitVec.ofNat 7 (s.reader 9 7)) s

/-- One subframe (spec/46_commands.md R167): stage by stage over all channels (spec/43_reconstruct.md R139). -/
def subframe (p : Config.Params) (sf : Nat) (s : State) : State :=
  let c := s.channels.toNat
  let s := forEach (List.range c) dequant s
  let s := forEach (List.range c) hfr s
  let s := forEach (List.range (c - 1)) (fun ch => intensity p ch sf) s
  forEach (List.range c) (fun ch => synth p ch sf) s

/-- The end of a body that completed (spec/46_commands.md R167). -/
def blockDone (s : State) : State :=
  { s with blocksDone := s.blocksDone + 1, done := true, phase := .configured }

/-- The body of a DECODE_BLOCK (spec/46_commands.md R167), ended at once by a fault
(spec/60_exceptions.md R186), which leaves the datapath unspecified (R187). -/
def decodeBody (p : Config.Params) (s : State) : State :=
  let s := syncField (blockStart (descramble s))
  let s := s.andThen noiseField
  let s := forEach (List.range s.channels.toNat) stage1 s
  let s := forEach (List.range 8) (subframe p) s
  let s := s.andThen pcmOut
  if s.phase = .faulted then s.unspecified else blockDone s

/-- The decoder's turn (spec/46_commands.md R161): one whole body while PHASE = BUSY, nothing otherwise
(spec/20_memory.md R73; log 3). -/
def decoderStep (p : Config.Params) (s : State) : State :=
  if s.phase = .busy then decodeBody p s else s

end Sys2Proof.Machine
end

