-- ==== Sys2Proof/Machine/Fields.lean ====
section
/-! DEFINITION. The block fields as instructions (spec/30_encoding.md R82-R91, spec/41_side_info.md
R113-R121). The decode sequence runs the same operations (Machine/Stage1.lean, Machine/Decoder.lean). -/

namespace Sys2Proof.Machine

/-- SYNC (R113). -/
def execSync (v : BitVec 16) (s : State) : Result := .next (opSync v s)

/-- NOISE (R114). -/
def execNoise (hi : BitVec 9) (lo : BitVec 7) (s : State) : Result := .next (opNoise hi lo s)

/-- SFMODE (R115): it moves the position and selects what follows; no array changes. -/
def execSfmode (_ch : Chan) (_mode : BitVec 3) (s : State) : Result := .next (opSfmode s)

/-- SF_ZERO (R117). -/
def execSfZero (ch : Chan) (s : State) : Result := .next (opSfZero ch.val s)

/-- SF_RAW (R116). -/
def execSfRaw (ch : Chan) (values : List (BitVec 6)) (s : State) : Result :=
  .next (opSfRaw ch.val values s)

/-- SF_FIRST (R118). -/
def execSfFirst (ch : Chan) (v : BitVec 6) (s : State) : Result := .next (opSfFirst ch.val v s)

/-- SF_DELTA (R118, R119). -/
def execSfDelta (ch : Chan) (i : Idx) (mode : BitVec 3) (d : BitVec 5) (s : State) : Result :=
  .next (opSfDelta ch.val i.val mode.toNat d.toNat s)

/-- SF_ESCAPE (R118). -/
def execSfEscape (ch : Chan) (i : Idx) (mode : BitVec 3) (v : BitVec 6) (s : State) : Result :=
  .next (opSfEscape ch.val i.val mode.toNat v s)

/-- INTENSITY_SET (R120). -/
def execIntensitySet (ch : Chan) (values : List (BitVec 4)) (s : State) : Result :=
  .next (opIntensitySet ch.val values s)

/-- INTENSITY_ALL15 (R120). -/
def execIntensityAll15 (ch : Chan) (s : State) : Result := .next (opIntensityAll15 ch.val s)

/-- HFR_SCALE (R121). -/
def execHfrScale (ch : Chan) (values : List (BitVec 6)) (s : State) : Result :=
  .next (opHfrScale ch.val values s)

/-- BLOCK_CHECKSUM: the last 16 bits are never read and never checked, so it changes nothing
(spec/30_encoding.md R82; DEDUCED, log 22). -/
def execBlockChecksum (_v : BitVec 16) (s : State) : Result := .next s

end Sys2Proof.Machine
end

