-- ==== Sys2Proof/Machine/Dispatch.lean ====
section
/-! DEFINITION. One arm per constructor of Instr: the meaning of each row of spec/opcode_table.json. -/

namespace Sys2Proof.Machine

def exec (i : Instr) (s : State) : Host.Outcome State Fault Refusal :=
  match i with
  | .nop => Sys2Proof.Machine.execNop s
  | .reset => Sys2Proof.Machine.execReset s
  | .configure => Sys2Proof.Machine.execConfigure s
  | .decodeBlock => Sys2Proof.Machine.execDecodeBlock s
  | .ack => Sys2Proof.Machine.execAck s
  | .reservedCmd x => Sys2Proof.Machine.execReservedCmd x s
  | .regRead r => Sys2Proof.Machine.execRegRead r s
  | .regWrite r v => Sys2Proof.Machine.execRegWrite r v s
  | .athRead idx => Sys2Proof.Machine.execAthRead idx s
  | .athWrite idx v => Sys2Proof.Machine.execAthWrite idx v s
  | .cipherRead idx => Sys2Proof.Machine.execCipherRead idx s
  | .cipherWrite idx v => Sys2Proof.Machine.execCipherWrite idx v s
  | .blockbufRead idx => Sys2Proof.Machine.execBlockbufRead idx s
  | .blockbufWrite idx v => Sys2Proof.Machine.execBlockbufWrite idx v s
  | .pcmbufRead w => Sys2Proof.Machine.execPcmbufRead w s
  | .badAccess a => Sys2Proof.Machine.execBadAccess a s
  | .descramble => Sys2Proof.Machine.execDescramble s
  | .blockStart => Sys2Proof.Machine.execBlockStart s
  | .stage1 ch => Sys2Proof.Machine.execStage1 ch s
  | .dequant ch sf => Sys2Proof.Machine.execDequant ch sf s
  | .hfr ch => Sys2Proof.Machine.execHfr ch s
  | .intensity ch sf => Sys2Proof.Machine.execIntensity ch sf s
  | .synth ch sf => Sys2Proof.Machine.execSynth ch sf s
  | .pcmOut => Sys2Proof.Machine.execPcmOut s
  | .sync v => Sys2Proof.Machine.execSync v s
  | .noise hi lo => Sys2Proof.Machine.execNoise hi lo s
  | .sfmode ch m => Sys2Proof.Machine.execSfmode ch m s
  | .sfZero ch => Sys2Proof.Machine.execSfZero ch s
  | .sfRaw ch vs => Sys2Proof.Machine.execSfRaw ch vs s
  | .sfFirst ch v => Sys2Proof.Machine.execSfFirst ch v s
  | .sfDelta ch idx m d => Sys2Proof.Machine.execSfDelta ch idx m d s
  | .sfEscape ch idx m v => Sys2Proof.Machine.execSfEscape ch idx m v s
  | .intensitySet ch vs => Sys2Proof.Machine.execIntensitySet ch vs s
  | .intensityAll15 ch => Sys2Proof.Machine.execIntensityAll15 ch s
  | .hfrScale ch vs => Sys2Proof.Machine.execHfrScale ch vs s
  | .blockChecksum v => Sys2Proof.Machine.execBlockChecksum v s
  | .codeR0 d => Sys2Proof.Machine.execCodeR0 d s
  | .codeR1Zero d => Sys2Proof.Machine.execCodeR1Zero d s
  | .codeR1P1 d => Sys2Proof.Machine.execCodeR1P1 d s
  | .codeR1M1 d => Sys2Proof.Machine.execCodeR1M1 d s
  | .codeR2Zero d => Sys2Proof.Machine.execCodeR2Zero d s
  | .codeR2P1 d => Sys2Proof.Machine.execCodeR2P1 d s
  | .codeR2M1 d => Sys2Proof.Machine.execCodeR2M1 d s
  | .codeR2P2 d => Sys2Proof.Machine.execCodeR2P2 d s
  | .codeR2M2 d => Sys2Proof.Machine.execCodeR2M2 d s
  | .codeR3Zero d => Sys2Proof.Machine.execCodeR3Zero d s
  | .codeR3P1 d => Sys2Proof.Machine.execCodeR3P1 d s
  | .codeR3M1 d => Sys2Proof.Machine.execCodeR3M1 d s
  | .codeR3P2 d => Sys2Proof.Machine.execCodeR3P2 d s
  | .codeR3M2 d => Sys2Proof.Machine.execCodeR3M2 d s
  | .codeR3P3 d => Sys2Proof.Machine.execCodeR3P3 d s
  | .codeR3M3 d => Sys2Proof.Machine.execCodeR3M3 d s
  | .codeR4Zero d => Sys2Proof.Machine.execCodeR4Zero d s
  | .codeR4P1 d => Sys2Proof.Machine.execCodeR4P1 d s
  | .codeR4M1 d => Sys2Proof.Machine.execCodeR4M1 d s
  | .codeR4P2 d => Sys2Proof.Machine.execCodeR4P2 d s
  | .codeR4M2 d => Sys2Proof.Machine.execCodeR4M2 d s
  | .codeR4P3 d => Sys2Proof.Machine.execCodeR4P3 d s
  | .codeR4M3 d => Sys2Proof.Machine.execCodeR4M3 d s
  | .codeR4P4 d => Sys2Proof.Machine.execCodeR4P4 d s
  | .codeR4M4 d => Sys2Proof.Machine.execCodeR4M4 d s
  | .codeR5Zero d => Sys2Proof.Machine.execCodeR5Zero d s
  | .codeR5P1 d => Sys2Proof.Machine.execCodeR5P1 d s
  | .codeR5M1 d => Sys2Proof.Machine.execCodeR5M1 d s
  | .codeR5P2 d => Sys2Proof.Machine.execCodeR5P2 d s
  | .codeR5M2 d => Sys2Proof.Machine.execCodeR5M2 d s
  | .codeR5P3 d => Sys2Proof.Machine.execCodeR5P3 d s
  | .codeR5M3 d => Sys2Proof.Machine.execCodeR5M3 d s
  | .codeR5P4 d => Sys2Proof.Machine.execCodeR5P4 d s
  | .codeR5M4 d => Sys2Proof.Machine.execCodeR5M4 d s
  | .codeR5P5 d => Sys2Proof.Machine.execCodeR5P5 d s
  | .codeR5M5 d => Sys2Proof.Machine.execCodeR5M5 d s
  | .codeR6Zero d => Sys2Proof.Machine.execCodeR6Zero d s
  | .codeR6P1 d => Sys2Proof.Machine.execCodeR6P1 d s
  | .codeR6M1 d => Sys2Proof.Machine.execCodeR6M1 d s
  | .codeR6P2 d => Sys2Proof.Machine.execCodeR6P2 d s
  | .codeR6M2 d => Sys2Proof.Machine.execCodeR6M2 d s
  | .codeR6P3 d => Sys2Proof.Machine.execCodeR6P3 d s
  | .codeR6M3 d => Sys2Proof.Machine.execCodeR6M3 d s
  | .codeR6P4 d => Sys2Proof.Machine.execCodeR6P4 d s
  | .codeR6M4 d => Sys2Proof.Machine.execCodeR6M4 d s
  | .codeR6P5 d => Sys2Proof.Machine.execCodeR6P5 d s
  | .codeR6M5 d => Sys2Proof.Machine.execCodeR6M5 d s
  | .codeR6P6 d => Sys2Proof.Machine.execCodeR6P6 d s
  | .codeR6M6 d => Sys2Proof.Machine.execCodeR6M6 d s
  | .codeR7Zero d => Sys2Proof.Machine.execCodeR7Zero d s
  | .codeR7P1 d => Sys2Proof.Machine.execCodeR7P1 d s
  | .codeR7M1 d => Sys2Proof.Machine.execCodeR7M1 d s
  | .codeR7P2 d => Sys2Proof.Machine.execCodeR7P2 d s
  | .codeR7M2 d => Sys2Proof.Machine.execCodeR7M2 d s
  | .codeR7P3 d => Sys2Proof.Machine.execCodeR7P3 d s
  | .codeR7M3 d => Sys2Proof.Machine.execCodeR7M3 d s
  | .codeR7P4 d => Sys2Proof.Machine.execCodeR7P4 d s
  | .codeR7M4 d => Sys2Proof.Machine.execCodeR7M4 d s
  | .codeR7P5 d => Sys2Proof.Machine.execCodeR7P5 d s
  | .codeR7M5 d => Sys2Proof.Machine.execCodeR7M5 d s
  | .codeR7P6 d => Sys2Proof.Machine.execCodeR7P6 d s
  | .codeR7M6 d => Sys2Proof.Machine.execCodeR7M6 d s
  | .codeR7P7 d => Sys2Proof.Machine.execCodeR7P7 d s
  | .codeR7M7 d => Sys2Proof.Machine.execCodeR7M7 d s
  | .codeR8Zero d => Sys2Proof.Machine.execCodeR8Zero d s
  | .codeR8Mag d mag neg => Sys2Proof.Machine.execCodeR8Mag d mag neg s
  | .codeR9Zero d => Sys2Proof.Machine.execCodeR9Zero d s
  | .codeR9Mag d mag neg => Sys2Proof.Machine.execCodeR9Mag d mag neg s
  | .codeR10Zero d => Sys2Proof.Machine.execCodeR10Zero d s
  | .codeR10Mag d mag neg => Sys2Proof.Machine.execCodeR10Mag d mag neg s
  | .codeR11Zero d => Sys2Proof.Machine.execCodeR11Zero d s
  | .codeR11Mag d mag neg => Sys2Proof.Machine.execCodeR11Mag d mag neg s
  | .codeR12Zero d => Sys2Proof.Machine.execCodeR12Zero d s
  | .codeR12Mag d mag neg => Sys2Proof.Machine.execCodeR12Mag d mag neg s
  | .codeR13Zero d => Sys2Proof.Machine.execCodeR13Zero d s
  | .codeR13Mag d mag neg => Sys2Proof.Machine.execCodeR13Mag d mag neg s
  | .codeR14Zero d => Sys2Proof.Machine.execCodeR14Zero d s
  | .codeR14Mag d mag neg => Sys2Proof.Machine.execCodeR14Mag d mag neg s
  | .codeR15Zero d => Sys2Proof.Machine.execCodeR15Zero d s
  | .codeR15Mag d mag neg => Sys2Proof.Machine.execCodeR15Mag d mag neg s

end Sys2Proof.Machine
end

