-- ==== Sys2Proof/Machine/Fetch.lean ====
section
/-! DEFINITION. Where the next operation comes from: taking the next event from the port, and placing a command
word or a code word so that the next step runs it (logs 1 and 17). -/

namespace Sys2Proof.Machine

/-- The state with another list of pending events. -/
def State.withInbox (s : State) (l : List Event) : State := { s with port := { s.port with inbox := l } }

/-- A 32-bit write of a word to CMD (spec/30_encoding.md R104, a `CMD` line). -/
def commandEvent (x : Word) : Event := .access ⟨Reg.cmd.addr, 32, .write x⟩

/-- NOISE / 256 for which a coefficient of scale factor 1, index 0 and ATH 0 has resolution `res`
(spec/41_side_info.md R123: t = NOISE / 256 - 1). -/
def noiseHiFor (res : Nat) : Nat :=
  [0, 58, 54, 51, 48, 47, 45, 44, 38, 32, 25, 19, 13, 7, 1, 0].getD res 0

/-- The first seven bytes, as one number, of a block of one channel with COUNT 1 whose first code word is the
`maxBits res`-bit value `w` in resolution `res`: sync 0xFFFF, NOISE, sfmode 6, scale factor 1, the code,
zeros (spec/30_encoding.md R82-R90). -/
def codeBlock (res w : Nat) : Nat :=
  let header := (0xFFFF * 2 ^ 9 + noiseHiFor res) * 2 ^ 7
  let side := (header * 2 ^ 3 + 6) * 2 ^ 6 + 1
  (side * 2 ^ maxBits res + w) * 2 ^ (56 - 41 - maxBits res)

/-- The seven bytes of `codeBlock` in BLOCKBUF, everything else as after reset. -/
def codeMemory (res w : Nat) : Memory :=
  (List.range 7).foldl
    (fun m i => memWrite m (blockAddr i) (BitVec.ofNat 8 (codeBlock res w / 2 ^ (8 * (6 - i))))) []

/-- A configured mono stream of 16-byte blocks with one coefficient, a block whose first code word is `w` in
resolution `res`, DECODE_BLOCK accepted, and the decoder's turn next. -/
def State.withCodeWord (s : State) (res w : Nat) : State :=
  { s with
    phase := .busy
    done := false
    channels := 1
    blockSize := 16
    r01 := 0
    r02 := 0
    r03 := 1
    r04 := 0
    r05 := 1
    r06 := 1
    r07 := 0
    r08 := 0
    r09 := 0
    chType := 0
    chans := s.chans.setIfInBounds 0 { s.chan 0 with type := .discrete, count := 1 }
    mem := codeMemory res w
    port := { s.port with inbox := .decoder :: s.port.inbox } }

end Sys2Proof.Machine
end

