-- ==== Sys2Proof/Machine/Step.lean ====
section
/-! DEFINITION. One step of the machine: the next event of the port happens (spec/20_memory.md R73). A host
access is decoded and executed; the decoder's turn runs one whole decoder step (spec/46_commands.md R161).
With no event pending the decoder goes on alone: it takes its step if PHASE = BUSY (log 1). -/

namespace Sys2Proof.Machine

def step (s : State) : Host.Outcome State Fault Refusal :=
  match s.port.inbox with
  | [] => .next (decoderStep Config.params s)
  | .access a :: rest => exec (decode (.access a)) (s.withInbox rest)
  | .decoder :: rest => .next (decoderStep Config.params (s.withInbox rest))

/-- The state whose very next step runs the instruction of a table word: a command word is the next host
access; a code word stands first in a block whose decoder step is next (log 17). -/
def State.withFetchWord (s : State) (nbits w : Nat) : State :=
  if nbits = 32 then s.withInbox (commandEvent (BitVec.ofNat 32 w) :: s.port.inbox)
  else
    match tableRes nbits w with
    | some res => s.withCodeWord res w
    | none => s

end Sys2Proof.Machine
end

