-- ==== Sys2Proof/Safety.lean ====
section
/-! DEFINITION. What a good state is: the invariants that hold after reset and that every step keeps. Then the
terms the claims use, written from the rules of spec/ and not from the machine: the checks of a host access, the
conditions of CONFIGURE, the channel-type loop, the state after reset, the fixed decode sequence, and what an
instruction of the datapath may change. -/

namespace Sys2Proof.Machine

/-- Memory and PCMBUF are in canonical form. -/
def State.Canonical (s : State) : Prop := s.mem.wf = true ∧ pcmWf s.pcm = true

/-- The fault record (spec/60_exceptions.md R184, R186): a code is recorded exactly in FAULTED, it is one of
1..10, the information word is 0 without it, and REFUSED is set only in FAULTED. -/
def State.FaultRecord (s : State) : Prop :=
  (s.phase = .faulted ↔ s.faultCode ≠ 0) ∧ s.faultCode.toNat ≤ 10
    ∧ (s.faultCode = 0 → s.faultInfo = 0) ∧ (s.refused = true → s.phase = .faulted)

/-- What CONFIGURE derived still follows from the registers it derived it from (spec/46_commands.md R164). -/
def State.Derived (s : State) : Prop :=
  s.configCheck = none ∧ s.r09 = BitVec.ofNat 32 s.hfrGroups ∧ s.chType = s.chTypeOf
    ∧ ∀ ch, ch < 16 →
      (s.chan ch).type = (if ch < s.channels.toNat then s.typeOf ch else .discrete)
        ∧ (s.chan ch).count = (if ch < s.channels.toNat then s.countOf ch else 0)

/-- In CONFIGURED and BUSY the configuration is a checked one, with what CONFIGURE derived from it. -/
def State.Configured (s : State) : Prop :=
  s.phase = .configured ∨ s.phase = .busy → s.Derived

/-- In UNCONFIGURED the datapath, the samples and the counters are as after reset, because UNCONFIGURED is
entered only by reset (spec/46_commands.md R164). -/
def State.Fresh (s : State) : Prop :=
  s.phase = .unconfigured →
    s.chans = State.reset.chans ∧ s.pcm = [] ∧ s.bitPos = 0 ∧ s.noise = 0 ∧ s.blocksDone = 0
      ∧ s.done = false

/-- The bound on BITPOS (spec/40_bitreader.md R112). -/
def State.BitPosBounded (s : State) : Prop := s.bitPos ≤ 231424

/-- The words of PCMBUF at or beyond 1024 x C read 0 (spec/46_commands.md R172). -/
def State.TailZero (s : State) : Prop :=
  ∀ w, 1024 * s.channels.toNat ≤ w → pcmRead s.pcm w = 0

/-- A good state: all of the above. -/
structure State.Good (s : State) : Prop where
  canonical : s.Canonical
  faultRecord : s.FaultRecord
  configured : s.Configured
  fresh : s.Fresh
  bitPosBounded : s.BitPosBounded
  tailZero : s.TailZero

/-! ### Terms of the claims: the host's side -/

/-- HCADEC accepts commands: UNCONFIGURED or CONFIGURED. -/
def State.Ready (s : State) : Prop := s.phase = .unconfigured ∨ s.phase = .configured

/-- The ranges of spec/20_memory.md R60 that take 32-bit accesses. -/
def wordWindow (a : Nat) : Prop := a ≤ 0x00000FFF ∨ (0x00020000 ≤ a ∧ a ≤ 0x0002FFFF)

/-- The ranges of spec/20_memory.md R60 that take 8-bit accesses. -/
def byteWindow (a : Nat) : Prop :=
  (0x00001000 ≤ a ∧ a ≤ 0x0000107F) ∨ (0x00001100 ≤ a ∧ a ≤ 0x000011FF)
    ∨ (0x00010000 ≤ a ∧ a ≤ 0x0001FFFE)

/-- The BadAccess checks as spec/60_exceptions.md R179 lists them: unmapped; an unassigned register; a wrong
width; a misaligned word; a write to a read-only register or to PCMBUF; a read of CMD. -/
def FailsChecks (a : Access) : Prop :=
  let n := a.addr.toNat
  (¬wordWindow n ∧ ¬byteWindow n)
    ∨ (4 * 0x15 ≤ n ∧ n ≤ 0x00000FFF)
    ∨ (wordWindow n ∧ a.width ≠ 32) ∨ (byteWindow n ∧ a.width ≠ 8)
    ∨ (wordWindow n ∧ n % 4 ≠ 0)
    ∨ (a.dir ≠ .read ∧ (n ∈ [4 * 0x00, 4 * 0x02, 4 * 0x04, 4 * 0x05, 4 * 0x06, 4 * 0x07, 4 * 0x12]
        ∨ (0x00020000 ≤ n ∧ n ≤ 0x0002FFFF)))
    ∨ (a.dir = .read ∧ n = 4 * 0x01)

/-- The RESET command: a 32-bit write of 1 to CMD. -/
def IsReset (a : Access) : Prop := a = ⟨4, 32, .write 1⟩

/-- The state after a host access faulted with a code and information word (spec/60_exceptions.md R186): nothing
else changes, and a read returns 0. -/
def State.faultedBy (s : State) (a : Access) (code : BitVec 8) (info : Word) : State :=
  let t := { s with faultCode := code, faultInfo := info, phase := .faulted }
  match a.dir with
  | .read => { t with port := { t.port with readData := 0 } }
  | .write _ => t

/-- The condition of one check of CONFIGURE (spec/46_commands.md R163). -/
def State.condition (s : State) : Nat → Prop
  | 1 => 1 ≤ s.channels.toNat ∧ s.channels.toNat ≤ 16
  | 2 => 8 ≤ s.blockSize.toNat ∧ s.blockSize.toNat ≤ 65535
  | 3 => s.r01.toNat ≤ s.r02.toNat ∧ s.r02.toNat ≤ 31
  | 4 => 1 ≤ s.r03.toNat ∧ s.r03.toNat ≤ 255 ∧ s.r04.toNat ≤ 255
  | 5 => s.r05.toNat ≤ 128 ∧ s.r06.toNat ≤ 255 ∧ s.r07.toNat ≤ 255 ∧ s.r08.toNat ≤ 255
  | 6 => s.r06.toNat + s.r07.toNat ≤ s.r05.toNat
  | 7 => (s.volume >>> 23) &&& 0xFF ≠ 0xFF
  | 8 => s.pcmFormat.toNat ≤ 4
  | _ => True

/-- Every check of CONFIGURE passes. -/
def State.conditions (s : State) : Prop := ∀ n, 1 ≤ n → n ≤ 8 → s.condition n

/-- The types of one track of `b` channels, first channel `c` (spec/30_encoding.md R92, one pass of its loop). -/
def typesOfTrack (b r04 c : Nat) (types : Nat → ChanType) : Nat → ChanType :=
  let pair (k : Nat) (f : Nat → ChanType) :=
    Function.update (Function.update f (c + k) .primary) (c + k + 1) .secondary
  if 8 < b then types
  else
    let types := pair 0 types
    let types := if b = 4 ∧ r04 = 0 then pair 2 types else types
    let types := if b = 5 ∧ r04 ≤ 2 then pair 3 types else types
    let types := if b = 6 ∨ b = 7 then pair 4 types else types
    if b = 8 then pair 6 (pair 4 types) else types

/-- The channel-type assignment as the loop of spec/30_encoding.md R92 runs it. -/
def typesByLoop (c r03 r04 r07 : Nat) : Nat → ChanType :=
  let b := c / r03
  if r07 ≠ 0 ∧ 1 < b then
    (List.range r03).foldl (fun types t => typesOfTrack b r04 (t * b) types) fun _ => .discrete
  else fun _ => .discrete

/-- Every piece of state has its reset value (spec/10_state.md reset-value summary, spec/70_reset_and_hazards.md
R197), the stores by what they read as. -/
def State.AfterReset (t : State) : Prop :=
  t.phase = .unconfigured ∧ t.done = false ∧ t.refused = false ∧ t.faultCode = 0 ∧ t.faultInfo = 0
    ∧ t.irqEn = 0 ∧ t.bitPos = 0 ∧ t.blocksDone = 0 ∧ t.chType = 0 ∧ t.channels = 0 ∧ t.blockSize = 0
    ∧ t.r01 = 0 ∧ t.r02 = 0 ∧ t.r03 = 0 ∧ t.r04 = 0 ∧ t.r05 = 0 ∧ t.r06 = 0 ∧ t.r07 = 0 ∧ t.r08 = 0
    ∧ t.r09 = 0 ∧ t.volume = 0x3F800000 ∧ t.pcmFormat = 0 ∧ t.noise = 0 ∧ t.bitLimit = 0
    ∧ (∀ i, i < 128 → t.ath i = 0) ∧ (∀ i, i < 256 → t.cipher i = BitVec.ofNat 8 i)
    ∧ (∀ i, i < 65535 → t.blockByte i = 0) ∧ (∀ w, w < 16384 → pcmRead t.pcm w = 0)
    ∧ ∀ ch, ch < 16 →
      (t.chan ch).type = .discrete ∧ (t.chan ch).count = 0
        ∧ (∀ k, k < 8 → entry (t.chan ch).int k = 0)
        ∧ ∀ i, i < 128 →
          entry (t.chan ch).sf i = 0 ∧ entry (t.chan ch).res i = 0 ∧ entry (t.chan ch).base i = 0
            ∧ entry (t.chan ch).spec i = 0 ∧ entry (t.chan ch).wav1 i = 0
            ∧ entry (t.chan ch).wav2 i = 0 ∧ entry (t.chan ch).wav3 i = 0
            ∧ ∀ sf, sf < 8 → t.wave ch sf i = 0

/-! ### Terms of the claims: the arithmetic and the tables -/

/-- +Inf or -Inf. -/
def IsInfinity (x : F32) : Prop := x = 0x7F800000 ∨ x = 0xFF800000

/-- `r` is a finite binary32 nearest to `exact / scale` in units of 2^-149; where another one is as near, the last
bit of `r` is 0 (spec/00_scope.md R8: round to nearest, ties to even). -/
def IsNearestEven (r : F32) (exact scale : Int) : Prop :=
  fFinite r = true
    ∧ ∀ y : F32, fFinite y = true → fInt y ≠ fInt r →
      |fInt r * scale - exact| ≤ |fInt y * scale - exact|
        ∧ (|fInt r * scale - exact| = |fInt y * scale - exact| → r.getLsbD 0 = false)

/-- The least magnitude, in units of 2^-149, that rounds beyond the largest finite value: half a last place above
it. -/
def overflowBound : Int := (2 ^ 25 - 1) * 2 ^ 252

/-- `r` is the sum of two operands one of which is infinite: the infinite one, or a NaN where they are infinities of
opposite sign (IEEE 754, which spec/00_scope.md R8 and spec/44_synthesis.md R149 follow). -/
def IsInfiniteSum (r a b : F32) : Prop :=
  (IsInfinity a → fFinite b = true ∨ b = a → r = a)
    ∧ (IsInfinity b → fFinite a = true → r = b)
    ∧ (IsInfinity a → IsInfinity b → a ≠ b → fIsNaN r = true)

/-- The positive normal value `x` is less than half a last place from the real number whose `n`-th power is
`num / den`: x = binary32((num / den)^(1/n)), as the closed forms of spec/30_encoding.md R99-R102 give the table
entries. -/
def IsRoundedRoot (x : F32) (n num den : Nat) : Prop :=
  fNeg x = false ∧ 1 ≤ fExp x ∧ fExp x ≤ 254
    ∧ (2 * fUnits x - 2 ^ (fExp x - 1)) ^ n * den < num * 2 ^ (150 * n)
    ∧ num * 2 ^ (150 * n) < (2 * fUnits x + 2 ^ (fExp x - 1)) ^ n * den

/-- r1 for k = 0..15 (spec/43_reconstruct.md R137, its table). -/
def primaryFactors : List F32 :=
  [0x40000000, 0x3FEDB6DB, 0x3FDB6DB7, 0x3FC92492, 0x3FB6DB6E, 0x3FA49249, 0x3F924925, 0x3F800000,
  0x3F5B6DB7, 0x3F36DB6E, 0x3F124925, 0x3EDB6DB7, 0x3E924925, 0x3E124925, 0x00000000, 0x00000000]

/-- r2 for k = 0..15 under either setting (spec/43_reconstruct.md R137, its table). -/
def secondaryFactors : Config.SecondaryFactor → List F32
  | .r1Minus2 =>
    [0x00000000, 0xBE124928, 0xBE924924, 0xBEDB6DB8, 0xBF124924, 0xBF36DB6E, 0xBF5B6DB6, 0xBF800000,
    0xBF924924, 0xBFA49249, 0xBFB6DB6E, 0xBFC92492, 0xBFDB6DB7, 0xBFEDB6DB, 0xC0000000, 0xC0000000]
  | .twoMinusR1 =>
    [0x00000000, 0x3E124928, 0x3E924924, 0x3EDB6DB8, 0x3F124924, 0x3F36DB6E, 0x3F5B6DB6, 0x3F800000,
    0x3F924924, 0x3FA49249, 0x3FB6DB6E, 0x3FC92492, 0x3FDB6DB7, 0x3FEDB6DB, 0x40000000, 0x40000000]

/-! ### Terms of the claims: the decoder's side -/

/-- Only BITPOS and the channels differ. -/
def OnlyDatapath (s t : State) : Prop := { t with bitPos := s.bitPos, chans := s.chans } = s

/-- Of the channels, only `ch` differs. -/
def OnlyChannel (s t : State) (ch : Nat) : Prop := ∀ c, c ≠ ch → t.chan c = s.chan c

/-- BITPOS moves by `n` bits; of the rest only SF[ch] changes, to the entries `f` gives. -/
def StoresSf (s t : State) (ch n : Nat) (f : Nat → BitVec 6) : Prop :=
  t.bitPos = s.bitPos + n ∧ OnlyDatapath s t ∧ OnlyChannel s t ch
    ∧ { t.chan ch with sf := (s.chan ch).sf } = s.chan ch
    ∧ ∀ j, j < 128 → entry (t.chan ch).sf j = f j

/-- BITPOS moves by `n` bits; of the rest only INT[ch] changes, to the entries `f` gives. -/
def StoresInt (s t : State) (ch n : Nat) (f : Nat → BitVec 4) : Prop :=
  t.bitPos = s.bitPos + n ∧ OnlyDatapath s t ∧ OnlyChannel s t ch
    ∧ { t.chan ch with int := (s.chan ch).int } = s.chan ch
    ∧ ∀ k, k < 8 → entry (t.chan ch).int k = f k

/-- BITPOS moves by `n` bits; of the rest only SPEC[ch] changes, to the entries `f` gives. -/
def StoresSpec (s t : State) (ch n : Nat) (f : Nat → F32) : Prop :=
  t.bitPos = s.bitPos + n ∧ OnlyDatapath s t ∧ OnlyChannel s t ch
    ∧ { t.chan ch with spec := (s.chan ch).spec } = s.chan ch
    ∧ ∀ j, j < 128 → entry (t.chan ch).spec j = f j

/-- The bit at a position of the block (spec/40_bitreader.md R106). -/
def State.blockBit (s : State) (p : Nat) : Bool := (s.blockByte (p / 8)).getLsbD (7 - p % 8)

/-- The bits of the block from BITPOS up to BITLIMIT. -/
def State.bitsAhead (s : State) : List Bool :=
  (List.range' s.bitPos (s.bitLimit - s.bitPos)).map s.blockBit

/-- One item of the fixed decode sequence: an operation without bits, or a field or code word read in its
context at BITPOS. -/
inductive SeqItem where
  | op (o : SeqOp)
  | field (c : Context)
  deriving DecidableEq, Repr

/-- The instruction an item decodes to in a state. -/
def SeqItem.instr (s : State) : SeqItem → Instr
  | .op o => decode (.sequencer o)
  | .field c => decode (.stream c s.bitsAhead)

/-- The instructions of the items executed one after the other, each decoded where the last one ended; a fault
ends the run at once (spec/60_exceptions.md R186). -/
def runItems : List SeqItem → State → Result
  | [], s => .next s
  | x :: l, s =>
    if s.phase = .faulted then .next s
    else
      match exec (x.instr s) s with
      | .next t => runItems l t
      | .fault r => .fault r
      | .refused r => .refused r

/-- The channels 0..C-1. -/
def channelsBelow (c : Nat) : List Chan := (List.finRange 16).filter fun ch => ch.val < c

/-- The body of a DECODE_BLOCK for `c` channels up to PCM_OUT (spec/46_commands.md R167). -/
def blockSequence (c : Nat) : List SeqItem :=
  [.op .descramble, .op .blockStart, .field .header, .field .noise]
    ++ (channelsBelow c).map (fun ch => .op (.stage1 ch))
    ++ ((List.finRange 8).flatMap fun sf =>
      (channelsBelow c).map (fun ch => .op (.dequant ch sf))
        ++ (channelsBelow c).map (fun ch => .op (.hfr ch))
        ++ (channelsBelow (c - 1)).map (fun ch => .op (.intensity ch sf))
        ++ (channelsBelow c).map (fun ch => .op (.synth ch sf)))
    ++ [.op .pcmOut]

/-- The fields of the side information of one channel (spec/30_encoding.md R84, R85). -/
def sideFields (s : State) (ch : Chan) : List SeqItem :=
  let mode : BitVec 3 := BitVec.ofNat 3 (s.peek 3)
  let k := s.chan ch.val
  [.field (.sfmode ch), .field (.payload ch mode k.count)]
    ++ (if 1 ≤ mode.toNat ∧ mode.toNat ≤ 5 then
        ((List.finRange 128).filter fun i => 1 ≤ i.val ∧ i.val < k.count).map
          fun i => .field (.delta ch i mode)
      else [])
    ++ [.field (if k.type = .secondary then .intensity ch else .hfrScales ch s.r09.toNat)]

/-- The code words of one channel in a subframe (spec/30_encoding.md R90). -/
def codeFields (s : State) (ch : Chan) : List SeqItem :=
  let k := s.chan ch.val
  ((List.finRange 128).filter fun i => i.val < k.count).map
    fun i => .field (.code ⟨ch, i⟩ (entry k.res i.val))

/-- The decoder takes its turn next: no event is pending, or its turn is the next event (log 1). -/
def State.DecoderTurn (s : State) : Prop :=
  s.port.inbox = [] ∨ ∃ rest, s.port.inbox = .decoder :: rest

/-- The state in which the pending events, but for the first, are still to come. -/
def State.afterEvent (s : State) : State :=
  { s with port := { s.port with inbox := s.port.inbox.tail } }

/-- The instruction of the next event, where it is a host access. -/
def State.nextInstr (s : State) : Option Instr :=
  match s.port.inbox with
  | .access a :: _ => some (decode (.access a))
  | _ => none

/-- A row of the code words of a resolution 0..7, or a zero code of a resolution 8..15: the instruction, the
resolution, the bits and the value (spec/30_encoding.md R96, R97). -/
structure CodeWord where
  instr : Slot → Instr
  res : Nat
  bits : List Nat
  value : Int

/-- The code words without a magnitude field: those of resolutions 0..7, first-read bit first (spec/30_encoding.md
R96, spec/42_dequant.md R129), and the zero codes of resolutions 8..15 (R97). -/
def plainCodeWords : List CodeWord :=
  [⟨.codeR0, 0, [], 0⟩,
  ⟨.codeR1Zero, 1, [0], 0⟩, ⟨.codeR1P1, 1, [1, 0], 1⟩, ⟨.codeR1M1, 1, [1, 1], -1⟩,
  ⟨.codeR2Zero, 2, [0, 0], 0⟩, ⟨.codeR2P1, 2, [0, 1], 1⟩, ⟨.codeR2M1, 2, [1, 0], -1⟩,
  ⟨.codeR2P2, 2, [1, 1, 0], 2⟩, ⟨.codeR2M2, 2, [1, 1, 1], -2⟩,
  ⟨.codeR3Zero, 3, [0, 0], 0⟩, ⟨.codeR3P1, 3, [0, 1, 0], 1⟩, ⟨.codeR3M1, 3, [0, 1, 1], -1⟩,
  ⟨.codeR3P2, 3, [1, 0, 0], 2⟩, ⟨.codeR3M2, 3, [1, 0, 1], -2⟩, ⟨.codeR3P3, 3, [1, 1, 0], 3⟩,
  ⟨.codeR3M3, 3, [1, 1, 1], -3⟩] ++ [
  ⟨.codeR4Zero, 4, [0, 0, 0], 0⟩, ⟨.codeR4P1, 4, [0, 0, 1], 1⟩, ⟨.codeR4M1, 4, [0, 1, 0], -1⟩,
  ⟨.codeR4P2, 4, [0, 1, 1], 2⟩, ⟨.codeR4M2, 4, [1, 0, 0], -2⟩, ⟨.codeR4P3, 4, [1, 0, 1], 3⟩,
  ⟨.codeR4M3, 4, [1, 1, 0], -3⟩, ⟨.codeR4P4, 4, [1, 1, 1, 0], 4⟩,
  ⟨.codeR4M4, 4, [1, 1, 1, 1], -4⟩] ++ [
  ⟨.codeR5Zero, 5, [0, 0, 0], 0⟩, ⟨.codeR5P1, 5, [0, 0, 1], 1⟩, ⟨.codeR5M1, 5, [0, 1, 0], -1⟩,
  ⟨.codeR5P2, 5, [0, 1, 1], 2⟩, ⟨.codeR5M2, 5, [1, 0, 0], -2⟩, ⟨.codeR5P3, 5, [1, 0, 1, 0], 3⟩,
  ⟨.codeR5M3, 5, [1, 0, 1, 1], -3⟩, ⟨.codeR5P4, 5, [1, 1, 0, 0], 4⟩,
  ⟨.codeR5M4, 5, [1, 1, 0, 1], -4⟩, ⟨.codeR5P5, 5, [1, 1, 1, 0], 5⟩,
  ⟨.codeR5M5, 5, [1, 1, 1, 1], -5⟩] ++ [
  ⟨.codeR6Zero, 6, [0, 0, 0], 0⟩, ⟨.codeR6P1, 6, [0, 0, 1], 1⟩, ⟨.codeR6M1, 6, [0, 1, 0], -1⟩,
  ⟨.codeR6P2, 6, [0, 1, 1, 0], 2⟩, ⟨.codeR6M2, 6, [0, 1, 1, 1], -2⟩,
  ⟨.codeR6P3, 6, [1, 0, 0, 0], 3⟩, ⟨.codeR6M3, 6, [1, 0, 0, 1], -3⟩,
  ⟨.codeR6P4, 6, [1, 0, 1, 0], 4⟩, ⟨.codeR6M4, 6, [1, 0, 1, 1], -4⟩,
  ⟨.codeR6P5, 6, [1, 1, 0, 0], 5⟩, ⟨.codeR6M5, 6, [1, 1, 0, 1], -5⟩,
  ⟨.codeR6P6, 6, [1, 1, 1, 0], 6⟩, ⟨.codeR6M6, 6, [1, 1, 1, 1], -6⟩] ++ [
  ⟨.codeR7Zero, 7, [0, 0, 0], 0⟩, ⟨.codeR7P1, 7, [0, 0, 1, 0], 1⟩,
  ⟨.codeR7M1, 7, [0, 0, 1, 1], -1⟩, ⟨.codeR7P2, 7, [0, 1, 0, 0], 2⟩,
  ⟨.codeR7M2, 7, [0, 1, 0, 1], -2⟩, ⟨.codeR7P3, 7, [0, 1, 1, 0], 3⟩,
  ⟨.codeR7M3, 7, [0, 1, 1, 1], -3⟩, ⟨.codeR7P4, 7, [1, 0, 0, 0], 4⟩,
  ⟨.codeR7M4, 7, [1, 0, 0, 1], -4⟩, ⟨.codeR7P5, 7, [1, 0, 1, 0], 5⟩,
  ⟨.codeR7M5, 7, [1, 0, 1, 1], -5⟩, ⟨.codeR7P6, 7, [1, 1, 0, 0], 6⟩,
  ⟨.codeR7M6, 7, [1, 1, 0, 1], -6⟩, ⟨.codeR7P7, 7, [1, 1, 1, 0], 7⟩,
  ⟨.codeR7M7, 7, [1, 1, 1, 1], -7⟩] ++ [
  ⟨.codeR8Zero, 8, List.replicate 4 0, 0⟩, ⟨.codeR9Zero, 9, List.replicate 5 0, 0⟩,
  ⟨.codeR10Zero, 10, List.replicate 6 0, 0⟩, ⟨.codeR11Zero, 11, List.replicate 7 0, 0⟩,
  ⟨.codeR12Zero, 12, List.replicate 8 0, 0⟩, ⟨.codeR13Zero, 13, List.replicate 9 0, 0⟩,
  ⟨.codeR14Zero, 14, List.replicate 10 0, 0⟩, ⟨.codeR15Zero, 15, List.replicate 11 0, 0⟩]

/-- What a code word of a resolution with some bits and a value is and does: its encoding is those bits; run, it
takes them and stores BASE x value in its coefficient (spec/42_dequant.md R128, R132). -/
def CodeWordDoes (i : Instr) (d : Slot) (res : Nat) (bits : List Bool) (value : Int) (s : State) : Prop :=
  encode i = .stream (.code d (BitVec.ofNat 4 res)) bits
    ∧ ∃ t, exec i s = .next t
      ∧ StoresSpec s t d.ch.val bits.length fun j =>
        if j = d.i.val then fmul (entry (s.chan d.ch.val).base j) (fOfInt value)
        else entry (s.chan d.ch.val).spec j

/-- The code words of a resolution 8..15 whose magnitude of `n` bits is not 0 (spec/30_encoding.md R97). -/
def MagnitudeCodes (n res : Nat) (mk : Slot → BitVec n → Bool → Instr) : Prop :=
  ∀ (d : Slot) (mag : BitVec n) (neg : Bool) (s : State), mag ≠ 0 →
    CodeWordDoes (mk d mag neg) d res
      ((List.range n).map (fun k => mag.getLsbD (n - 1 - k)) ++ [neg])
      (if neg then -(mag.toNat : Int) else mag.toNat) s

end Sys2Proof.Machine
end

