-- ==== Sys2Proof/WellFormed.lean ====
section
/-! DEFINITION. Which operands each row of spec/opcode_table.json admits. A term that fails a check here is no
encoding of its row; the decoder never produces one. -/

namespace Sys2Proof

/-- A delta mode is 1..5 (spec/30_encoding.md R85). -/
def deltaMode (m : BitVec 3) : Bool := decide (1 ≤ m.toNat) && decide (m.toNat ≤ 5)

/-- The operands are those the row's encoding admits. -/
def Instr.wf : Instr → Bool
  | .nop | .reset | .configure | .decodeBlock | .ack => true
  | .reservedCmd x => reservedWord x
  | .regRead r => r.readable
  | .regWrite r _ => r.writable
  | .athRead _ | .athWrite _ _ | .cipherRead _ | .cipherWrite _ _ => true
  | .blockbufRead _ | .blockbufWrite _ _ | .pcmbufRead _ => true
  | .badAccess a => a.bad
  | .descramble | .blockStart | .stage1 _ | .dequant _ _ | .hfr _ => true
  | .intensity ch _ => decide (ch.val < 15)
  | .synth _ _ | .pcmOut => true
  | .sync _ | .noise _ _ | .sfmode _ _ | .sfZero _ => true
  | .sfRaw _ vs => decide (vs.length ≤ 128)
  | .sfFirst _ _ => true
  | .sfDelta _ i m d => decide (1 ≤ i.val) && deltaMode m && decide (d.toNat < 2 ^ m.toNat - 1)
  | .sfEscape _ i m _ => decide (1 ≤ i.val) && deltaMode m
  | .intensitySet _ vs => decide (vs.length = 8) && decide (vs.head? ≠ some 15)
  | .intensityAll15 _ => true
  | .hfrScale _ vs => decide (vs.length ≤ 128)
  | .blockChecksum _ => true
  | .codeR0 _ => true
  | .codeR1Zero _ | .codeR1P1 _ | .codeR1M1 _ => true
  | .codeR2Zero _ | .codeR2P1 _ | .codeR2M1 _ | .codeR2P2 _ | .codeR2M2 _ => true
  | .codeR3Zero _ | .codeR3P1 _ | .codeR3M1 _ | .codeR3P2 _ | .codeR3M2 _ | .codeR3P3 _ | .codeR3M3 _ => true
  | .codeR4Zero _ | .codeR4P1 _ | .codeR4M1 _ | .codeR4P2 _ | .codeR4M2 _ | .codeR4P3 _ | .codeR4M3 _ | .codeR4P4 _ | .codeR4M4 _ => true
  | .codeR5Zero _ | .codeR5P1 _ | .codeR5M1 _ | .codeR5P2 _ | .codeR5M2 _ | .codeR5P3 _ | .codeR5M3 _ | .codeR5P4 _ | .codeR5M4 _ | .codeR5P5 _ | .codeR5M5 _ => true
  | .codeR6Zero _ | .codeR6P1 _ | .codeR6M1 _ | .codeR6P2 _ | .codeR6M2 _ | .codeR6P3 _ | .codeR6M3 _ | .codeR6P4 _ | .codeR6M4 _ | .codeR6P5 _ | .codeR6M5 _ | .codeR6P6 _ | .codeR6M6 _ => true
  | .codeR7Zero _ | .codeR7P1 _ | .codeR7M1 _ | .codeR7P2 _ | .codeR7M2 _ | .codeR7P3 _ | .codeR7M3 _ | .codeR7P4 _ | .codeR7M4 _ | .codeR7P5 _ | .codeR7M5 _ | .codeR7P6 _ | .codeR7M6 _ | .codeR7P7 _ | .codeR7M7 _ => true
  | .codeR8Zero _ => true
  | .codeR8Mag _ mag _ => mag != 0
  | .codeR9Zero _ => true
  | .codeR9Mag _ mag _ => mag != 0
  | .codeR10Zero _ => true
  | .codeR10Mag _ mag _ => mag != 0
  | .codeR11Zero _ => true
  | .codeR11Mag _ mag _ => mag != 0
  | .codeR12Zero _ => true
  | .codeR12Mag _ mag _ => mag != 0
  | .codeR13Zero _ => true
  | .codeR13Mag _ mag _ => mag != 0
  | .codeR14Zero _ => true
  | .codeR14Mag _ mag _ => mag != 0
  | .codeR15Zero _ => true
  | .codeR15Mag _ mag _ => mag != 0

/-- The contexts the decode sequence reaches: at most 128 scale factors or scales, and a delta code only for
a later scale factor in a delta mode (spec/30_encoding.md R85-R89). -/
def Context.wf : Context → Bool
  | .header | .noise | .sfmode _ | .intensity _ | .code _ _ | .checksum => true
  | .payload _ _ count => decide (count ≤ 128)
  | .delta _ i mode => decide (1 ≤ i.val) && deltaMode mode
  | .hfrScales _ groups => decide (groups ≤ 128)

/-- The sources of instructions: every access, every bit list in a context of the sequence, and the operations
of the sequence (spec/46_commands.md R167: INTENSITY runs for channels 0..C-2). -/
def Source.wf : Source → Bool
  | .access _ => true
  | .stream c _ => c.wf
  | .sequencer (.intensity ch _) => decide (ch.val < 15)
  | .sequencer .descramble | .sequencer .blockStart | .sequencer .pcmOut => true
  | .sequencer (.stage1 _) | .sequencer (.dequant _ _) | .sequencer (.hfr _) => true
  | .sequencer (.synth _ _) => true

end Sys2Proof
end

