-- ==== Sys2Proof/Certificates/Slice0/Obligations.lean ====
section
/-! DEFINITION. The statements for the provers. Each cites the rules of spec/ it formalises; where a clause is
the model's own choice its docstring names the log entry. -/

open Sys2Proof Sys2Proof.Machine

/-! ### Encoding -/

/-- Decoding an encoded well-formed instruction gives it back, whatever bits of the block follow its own (at
least one: a code word may look one bit ahead, R96). -/
def Obligations.DecodeOfEncode : Prop :=
  ∀ i : Instr, i.wf = true → ∀ rest : List Bool, rest ≠ [] → decode ((encode i).extend rest) = i

/-- Encoding a decoded host access gives the access back, but for the bits above the low 8 of a byte write,
which are not stored (R171). -/
def Obligations.EncodeOfDecodedAccess : Prop :=
  ∀ a : Access, (∀ v, a.dir = .write v → a.width = 8 → v.toNat < 256) →
    encode (decode (.access a)) = .access a

/-- The decoder only produces well-formed instructions. -/
def Obligations.DecodedIsWellFormed : Prop :=
  ∀ src : Source, src.wf = true → (decode src).wf = true

/-- Every bit string of MAXBITS[s] bits begins with exactly one code word of the resolution s (R96, R97). -/
def Obligations.EveryPatternHasOneCodeWord : Prop :=
  ∀ (d : Slot) (s : Nat) (bits : List Bool), 1 ≤ s → s ≤ 15 → bits.length = maxBits s →
    ∃ i : Instr, i.wf = true
      ∧ encode i = .stream (.code d (BitVec.ofNat 4 s)) (bits.take (bitLength i))
      ∧ ∀ (j : Instr) (n : Nat), j.wf = true →
          encode j = .stream (.code d (BitVec.ofNat 4 s)) (bits.take n) → j = i

/-- A few words written out from the spec's encodings decode to their instructions (R80, R61-R65, R83, R87,
R96, R97). -/
def Obligations.SampleWordsDecode : Prop :=
  decode (.access ⟨0x004, 32, .write 0x00000003⟩) = .decodeBlock
    ∧ decode (.access ⟨0x004, 32, .write 0x00000101⟩) = .reservedCmd 0x00000101
    ∧ decode (.access ⟨0x04C, 32, .read⟩) = .regRead .volume
    ∧ decode (.access ⟨0x1105, 8, .write 0x1A7⟩) = .cipherWrite 5 0xA7
    ∧ decode (.access ⟨0x2042C, 32, .read⟩) = .pcmbufRead 267
    ∧ decode (.access ⟨0x1FFFF, 8, .read⟩) = .badAccess ⟨0x1FFFF, 8, .read⟩
    ∧ decode (.stream (.delta 1 2 2) [true, true, false, false, false, true, true, true])
        = .sfEscape 1 2 2 7
    ∧ decode (.stream (.code ⟨0, 0⟩ 7) [false, false, false, true]) = .codeR7Zero ⟨0, 0⟩
    ∧ decode (.stream (.code ⟨0, 0⟩ 8) [false, false, true, true, true]) = .codeR8Mag ⟨0, 0⟩ 3 true

/-! ### Host commands -/

/-- NOP (R162) has no effect; ACK (R168) clears DONE and with it the interrupt. -/
def Obligations.NopAndAck : Prop :=
  ∀ s : State, s.Ready →
    exec .nop s = .next s
      ∧ exec .ack s = .next { s with done := false }
      ∧ State.irq { s with done := false } = false

/-- Power-on reset leaves every reset value; RESET does the same in every phase (R165, R197, R198). -/
def Obligations.ResetGivesResetValues : Prop :=
  State.reset.AfterReset
    ∧ ∀ s : State, ∃ t, exec .reset s = .next t ∧ t.AfterReset ∧ t.irq = false
      ∧ t.reg .id = 0x48434431 ∧ t.reg .volume = 0x3F800000
      ∧ ∀ r : Reg, r ≠ .id → r ≠ .cmd → r ≠ .volume → t.reg r = 0

/-- A command word with bits[31:8] not 0 or OP above 0x04 is reserved, and writing it in UNCONFIGURED or
CONFIGURED raises IllegalCommand (R174). -/
def Obligations.ReservedCommandFaults : Prop :=
  ∀ (x : Word) (s : State), s.Ready →
    ((x >>> 8 ≠ 0 ∨ 0x04 < x.toNat % 256) →
      decode (.access ⟨0x004, 32, .write x⟩) = .reservedCmd x)
    ∧ exec (.reservedCmd x) s = .next { s with faultCode := 1, faultInfo := x, phase := .faulted }

/-- CONFIGURE raises BadConfig with the number of the first failing check and changes nothing else (R163,
R175). -/
def Obligations.ConfigureReportsFirstFailingCheck : Prop :=
  ∀ (s : State) (n : Nat), s.phase = .unconfigured → 1 ≤ n → n ≤ 8 → ¬s.condition n →
    (∀ m, 1 ≤ m → m < n → s.condition m) →
    exec .configure s
      = .next { s with faultCode := 2, faultInfo := BitVec.ofNat 32 n, phase := .faulted }

/-- CONFIGURE, when every check passes: R09, TYPE, COUNT, CHTYPE, PHASE and DONE, and nothing else (R164, R34,
R92). -/
def Obligations.ConfigureEffects : Prop :=
  ∀ s : State, s.phase = .unconfigured → s.conditions →
    ∃ t, exec .configure s = .next t ∧ t.phase = .configured ∧ t.done = true
      ∧ (s.r08 = 0 → t.r09 = 0)
      ∧ (s.r08 ≠ 0 → s.r05.toNat - (s.r06.toNat + s.r07.toNat) ≤ t.r09.toNat * s.r08.toNat
          ∧ ∀ q, s.r05.toNat - (s.r06.toNat + s.r07.toNat) ≤ q * s.r08.toNat → t.r09.toNat ≤ q)
      ∧ (∀ ch, ch < s.channels.toNat →
          (t.chan ch).type
              = typesByLoop s.channels.toNat s.r03.toNat s.r04.toNat s.r07.toNat ch
            ∧ (t.chan ch).count
              = s.r06.toNat + (if (t.chan ch).type = .secondary then 0 else s.r07.toNat)
            ∧ { t.chan ch with type := (s.chan ch).type, count := (s.chan ch).count } = s.chan ch)
      ∧ (∀ ch, s.channels.toNat ≤ ch → t.chan ch = s.chan ch)
      ∧ t.chType.toNat
          = ((List.range s.channels.toNat).map fun ch => typeCode (t.chan ch).type * 4 ^ ch).sum
      ∧ { t with phase := s.phase, done := s.done, r09 := s.r09, chType := s.chType,
                 chans := s.chans } = s

/-- In a configured state every type-1 channel is followed by a type-2 channel of the stream, every type-2
channel is preceded by a type-1 channel, and without stereo bands every channel is type 0 (R92 (a)-(c)). -/
def Obligations.ChannelsPairUp : Prop :=
  ∀ s : State, s.Configured → s.phase = .configured ∨ s.phase = .busy →
    (∀ ch, (s.chan ch).type = .primary →
        ch + 1 < s.channels.toNat ∧ (s.chan (ch + 1)).type = .secondary)
      ∧ (∀ ch, (s.chan ch).type = .secondary → 1 ≤ ch ∧ (s.chan (ch - 1)).type = .primary)
      ∧ (s.r07 = 0 → ∀ ch, (s.chan ch).type = .discrete)

/-- In CONFIGURED a write to a config register, ATH or CIPHER, and CONFIGURE, raise ConfigLocked and change
nothing else (R177). -/
def Obligations.ConfigurationIsLocked : Prop :=
  ∀ s : State, s.phase = .configured →
    let locked (info : Word) : Result :=
      .next { s with faultCode := 4, faultInfo := info, phase := .faulted }
    (∀ r ∈ [Reg.channels, .blockSize, .r01, .r02, .r03, .r04, .r05, .r06, .r07, .r08, .volume, .pcmFormat],
        ∀ v, exec (.regWrite r v) s = locked (BitVec.ofNat 32 (4 * r.index)))
      ∧ (∀ i v, exec (.athWrite i v) s = locked (BitVec.ofNat 32 (0x1000 + i.val)))
      ∧ (∀ i v, exec (.cipherWrite i v) s = locked (BitVec.ofNat 32 (0x1100 + i.val)))
      ∧ exec .configure s = locked 0x00000002

/-- DECODE_BLOCK is accepted in CONFIGURED (R166) and raises NotConfigured in UNCONFIGURED (R176). -/
def Obligations.DecodeBlockAcceptance : Prop :=
  ∀ s : State,
    (s.phase = .configured → exec .decodeBlock s = .next { s with done := false, phase := .busy })
      ∧ (s.phase = .unconfigured →
        exec .decodeBlock s
          = .next { s with faultCode := 3, faultInfo := 0x00000003, phase := .faulted })

/-! ### Host accesses -/

/-- In BUSY every access that passes the BadAccess checks, but a read of ID or STATUS and the RESET command,
raises HostBusy (R178). -/
def Obligations.AccessInBusyFaults : Prop :=
  ∀ (s : State) (a : Access), s.phase = .busy → ¬FailsChecks a → ¬IsReset a →
    ¬(a.dir = .read ∧ (a.addr = 4 * 0x00 ∨ a.addr = 4 * 0x02)) →
    exec (decode (.access a)) s = .next (s.faultedBy a 5 a.addr)

/-- An access that fails a check raises BadAccess in every phase but FAULTED, with its address and no other
effect (R179). -/
def Obligations.BadAccessFaults : Prop :=
  ∀ (s : State) (a : Access), s.phase ≠ .faulted → FailsChecks a →
    decode (.access a) = .badAccess a ∧ exec (.badAccess a) s = .next (s.faultedBy a 6 a.addr)

/-- In FAULTED every access but RESET and a legal read is refused: REFUSED is set, nothing else changes, and a
refused read returns 0 (R186). -/
def Obligations.FaultedRefusesAccesses : Prop :=
  ∀ (s : State) (a : Access), s.phase = .faulted → (FailsChecks a ∨ (a.dir ≠ .read ∧ ¬IsReset a)) →
    exec (decode (.access a)) s
      = .next (match a.dir with
          | .read => { s with refused := true, port := { s.port with readData := 0 } }
          | .write _ => { s with refused := true })

/-- A read of a register returns its value and changes nothing else, in every phase but BUSY; ID and STATUS are
read in BUSY too (R170, R72). Where the value goes is the model's (log 2). -/
def Obligations.RegisterReads : Prop :=
  ∀ s : State,
    let ret (v : Word) : Result := .next { s with port := { s.port with readData := v } }
    exec (.regRead .id) s = ret 0x48434431
      ∧ exec (.regRead .status) s = ret s.status
      ∧ (s.phase ≠ .busy →
        exec (.regRead .irqEn) s = ret s.irqEn
          ∧ exec (.regRead .faultInfo) s = ret s.faultInfo
          ∧ exec (.regRead .bitPos) s = ret (BitVec.ofNat 32 s.bitPos)
          ∧ exec (.regRead .blocksDone) s = ret s.blocksDone
          ∧ exec (.regRead .chType) s = ret s.chType
          ∧ exec (.regRead .channels) s = ret s.channels
          ∧ exec (.regRead .blockSize) s = ret s.blockSize
          ∧ exec (.regRead .r01) s = ret s.r01 ∧ exec (.regRead .r02) s = ret s.r02
          ∧ exec (.regRead .r03) s = ret s.r03 ∧ exec (.regRead .r04) s = ret s.r04
          ∧ exec (.regRead .r05) s = ret s.r05 ∧ exec (.regRead .r06) s = ret s.r06
          ∧ exec (.regRead .r07) s = ret s.r07 ∧ exec (.regRead .r08) s = ret s.r08
          ∧ exec (.regRead .r09) s = ret s.r09
          ∧ exec (.regRead .volume) s = ret s.volume
          ∧ exec (.regRead .pcmFormat) s = ret s.pcmFormat)

/-- The layout of STATUS (R23, R170) and the level of the interrupt line that it shows (R188). -/
def Obligations.StatusWord : Prop :=
  ∀ s : State,
    s.status.toNat % 4
        = (match s.phase with | .unconfigured => 0 | .configured => 1 | .busy => 2 | .faulted => 3)
      ∧ s.status.getLsbD 2 = s.done
      ∧ s.status.getLsbD 3 = s.refused
      ∧ (s.status.getLsbD 4 = true ↔
          (s.done = true ∧ s.irqEn.getLsbD 0 = true)
            ∨ (s.phase = .faulted ∧ s.irqEn.getLsbD 1 = true))
      ∧ (∀ b, 5 ≤ b → b ≤ 7 → s.status.getLsbD b = false)
      ∧ (s.status >>> 8).setWidth 8 = s.faultCode
      ∧ ∀ b, 16 ≤ b → s.status.getLsbD b = false

/-- A read of a byte window or of PCMBUF returns what is stored and changes nothing else, in every phase but
BUSY (R171, R172). -/
def Obligations.WindowReads : Prop :=
  ∀ s : State, s.phase ≠ .busy →
    let ret (v : Word) : Result := .next { s with port := { s.port with readData := v } }
    (∀ i : Idx, exec (.athRead i) s = ret ((memRead s.mem (0x1000 + i.val)).setWidth 32))
      ∧ (∀ i : Fin 256, exec (.cipherRead i) s = ret ((memRead s.mem (0x1100 + i.val)).setWidth 32))
      ∧ (∀ i : Fin 65535,
          exec (.blockbufRead i) s = ret ((memRead s.mem (0x10000 + i.val)).setWidth 32))
      ∧ ∀ w : Fin 16384, exec (.pcmbufRead w) s = ret (pcmRead s.pcm w.val)

/-- A write of a config register in UNCONFIGURED, and of IRQ_EN in UNCONFIGURED or CONFIGURED, stores the whole
word and changes nothing else (R170, R24, R72). -/
def Obligations.RegisterWrites : Prop :=
  ∀ (s : State) (v : Word),
    (s.Ready → exec (.regWrite .irqEn v) s = .next { s with irqEn := v })
      ∧ (s.phase = .unconfigured →
        exec (.regWrite .channels v) s = .next { s with channels := v }
          ∧ exec (.regWrite .blockSize v) s = .next { s with blockSize := v }
          ∧ exec (.regWrite .r01 v) s = .next { s with r01 := v }
          ∧ exec (.regWrite .r02 v) s = .next { s with r02 := v }
          ∧ exec (.regWrite .r03 v) s = .next { s with r03 := v }
          ∧ exec (.regWrite .r04 v) s = .next { s with r04 := v }
          ∧ exec (.regWrite .r05 v) s = .next { s with r05 := v }
          ∧ exec (.regWrite .r06 v) s = .next { s with r06 := v }
          ∧ exec (.regWrite .r07 v) s = .next { s with r07 := v }
          ∧ exec (.regWrite .r08 v) s = .next { s with r08 := v }
          ∧ exec (.regWrite .volume v) s = .next { s with volume := v }
          ∧ exec (.regWrite .pcmFormat v) s = .next { s with pcmFormat := v })

/-- A byte write stores the low 8 bits of the value at its address and no other byte changes: ATH and CIPHER in
UNCONFIGURED, BLOCKBUF in UNCONFIGURED and CONFIGURED (R171, R62-R64). -/
def Obligations.ByteWrites : Prop :=
  ∀ (s : State) (w : Word), s.mem.wf = true →
    let stores (i : Instr) (addr : Nat) : Prop :=
      decode (.access ⟨BitVec.ofNat 32 addr, 8, .write w⟩) = i
        ∧ ∃ t, exec i s = .next t ∧ { t with mem := s.mem } = s
          ∧ ∀ a, memRead t.mem a = if a = addr then w.setWidth 8 else memRead s.mem a
    (s.phase = .unconfigured →
        (∀ i : Idx, stores (.athWrite i (w.setWidth 8)) (0x1000 + i.val))
          ∧ ∀ i : Fin 256, stores (.cipherWrite i (w.setWidth 8)) (0x1100 + i.val))
      ∧ (s.Ready → ∀ i : Fin 65535, stores (.blockbufWrite i (w.setWidth 8)) (0x10000 + i.val))

/-! ### The step -/

/-- When the next event is a host access, it decodes to a well-formed instruction and the step is that
instruction at the state in which the event is gone. When it is the decoder's turn outside BUSY nothing happens
(R73; the schedule is the model's, logs 1 and 3). -/
def Obligations.StepRunsDecodedAccess : Prop :=
  ∀ s : State,
    (∀ a rest, s.port.inbox = .access a :: rest →
        (decode (.access a)).wf = true ∧ step s = exec (decode (.access a)) s.afterEvent)
      ∧ (s.DecoderTurn → s.phase ≠ .busy → step s = .next s.afterEvent)

/-- The decoder's turn in BUSY runs the fixed sequence, each field and code word decoded from the bits at BITPOS;
unless a fault ended it, the block is counted and the phase is CONFIGURED (R167). That a fault leaves free values in
the datapath is the model's choice of a form for what R187 leaves unspecified (log 8). -/
def Obligations.DecoderTurnRunsSequence : Prop :=
  ∀ s : State, s.DecoderTurn → s.phase = .busy → s.channels.toNat ≤ 16 →
    ∃ t, runItems (blockSequence s.channels.toNat) s.afterEvent = .next t
      ∧ step s = .next (if t.phase = .faulted then t.unspecified
          else { t with blocksDone := t.blocksDone + 1, done := true, phase := .configured })

/-- STAGE1 reads the side information of its channel field by field, each decoded from the bits at BITPOS, and
then derives RES and BASE (R84, R85, R126); what it derives is the statement ResolutionAndBase. -/
def Obligations.StageOneReadsItsFields : Prop :=
  ∀ (s : State) (ch : Chan), s.phase ≠ .faulted → (s.chan ch.val).count ≤ 128 →
    ∃ t, runItems (sideFields s ch) s = .next t
      ∧ (t.phase = .faulted → exec (.stage1 ch) s = .next t)
      ∧ (t.phase ≠ .faulted → ∃ u, exec (.stage1 ch) s = .next u
          ∧ { u with chans := t.chans } = t ∧ OnlyChannel t u ch.val
          ∧ { u.chan ch.val with res := (t.chan ch.val).res, base := (t.chan ch.val).base }
            = t.chan ch.val)

/-- DEQUANT reads one code word per coefficient below COUNT, in order, each decoded from the bits at BITPOS in
its coefficient's resolution, and then clears SPEC from COUNT on (R90, R128, R133). -/
def Obligations.DequantReadsItsCodeWords : Prop :=
  ∀ (s : State) (ch : Chan) (sf : Sub), s.phase ≠ .faulted → (s.chan ch.val).count ≤ 128 →
    ∃ t, runItems (codeFields s ch) s = .next t
      ∧ ∃ u, exec (.dequant ch sf) s = .next u
        ∧ StoresSpec t u ch.val 0 fun j =>
          if j < (s.chan ch.val).count then entry (t.chan ch.val).spec j else 0

/-- `peek` and `take` deliver the bits of the block, first bit most significant, and 0 past BITLIMIT (R106,
R107): the reader on the memory is the reader on the list of the bits ahead. -/
def Obligations.ReaderReadsTheBitsAhead : Prop :=
  ∀ (s : State) (off n : Nat), n ≤ 16 →
    s.reader off n = readBits s.bitsAhead off n
      ∧ (s.bitLimit < s.bitPos + n → s.peek n = 0)
      ∧ (s.bitPos + n ≤ s.bitLimit → s.peek n < 2 ^ n
          ∧ ∀ k, k < n → (s.peek n).testBit (n - 1 - k) = s.blockBit (s.bitPos + k))

/-! ### Block fields -/

/-- BLOCK_START (R111), SYNC (R113) and NOISE (R114). -/
def Obligations.HeaderFields : Prop :=
  ∀ s : State,
    (2 ≤ s.blockSize.toNat → ∃ t, exec .blockStart s = .next t ∧ t.bitPos = 0
        ∧ t.bitLimit + 16 = 8 * s.blockSize.toNat
        ∧ { t with bitPos := s.bitPos, bitLimit := s.bitLimit } = s)
      ∧ exec (.sync 0xFFFF) s = .next { s with bitPos := s.bitPos + 16 }
      ∧ (∀ v, v ≠ 0xFFFF → exec (.sync v) s = .next { s with
          bitPos := s.bitPos + 16, faultCode := 7, faultInfo := v.setWidth 32, phase := .faulted })
      ∧ ∀ (hi : BitVec 9) (lo : BitVec 7),
          let n : Int := hi.toNat * 256 - lo.toNat
          exec (.noise hi lo) s = .next { s with bitPos := s.bitPos + 16, noise := n }
            ∧ -127 ≤ n ∧ n ≤ 130816

/-- The mode field selects what follows (R115, R85); SF_ZERO clears all 128 scale factors and reads no bits
(R117); SF_RAW stores its values from index 0 on and writes no other scale factor (R116). -/
def Obligations.ScaleFactorPayloads : Prop :=
  ∀ (s : State) (ch : Chan),
    (∀ mode, exec (.sfmode ch mode) s = .next { s with bitPos := s.bitPos + 3 })
      ∧ (∀ (mode : BitVec 3) (count : Nat) (bits : List Bool),
          let i := decode (.stream (.payload ch mode count) bits)
          (mode = 0 → i = .sfZero ch)
            ∧ (6 ≤ mode.toNat → ∃ vs, i = .sfRaw ch vs ∧ vs.length = count)
            ∧ (1 ≤ mode.toNat → mode.toNat ≤ 5 → ∃ v, i = .sfFirst ch v))
      ∧ (∃ t, exec (.sfZero ch) s = .next t ∧ StoresSf s t ch.val 0 fun _ => 0)
      ∧ ∀ vs : List (BitVec 6), vs.length ≤ 128 →
          ∃ t, exec (.sfRaw ch vs) s = .next t
            ∧ StoresSf s t ch.val (6 * vs.length) fun j =>
              if j < vs.length then vs.getD j 0 else entry (s.chan ch.val).sf j

/-- Delta mode: the first value is stored at index 0; an escape stores its raw value; a delta stores the previous
scale factor plus d - half, or raises ScaleFactorRange where that lies outside 0..63 (R118, R119, R181). -/
def Obligations.ScaleFactorDeltas : Prop :=
  ∀ (s : State) (ch : Chan),
    (∀ v, ∃ t, exec (.sfFirst ch v) s = .next t
        ∧ StoresSf s t ch.val 6 fun j => if j = 0 then v else entry (s.chan ch.val).sf j)
      ∧ ∀ (i : Idx) (m : BitVec 3), 1 ≤ i.val → 1 ≤ m.toNat → m.toNat ≤ 5 →
        (∀ v, ∃ t, exec (.sfEscape ch i m v) s = .next t
            ∧ StoresSf s t ch.val (m.toNat + 6) fun j =>
              if j = i.val then v else entry (s.chan ch.val).sf j)
          ∧ ∀ d : BitVec 5, d.toNat < 2 ^ m.toNat - 1 →
            let v : Int :=
              (entry (s.chan ch.val).sf (i.val - 1)).toNat + d.toNat - ((2 ^ m.toNat - 1) / 2 : Nat)
            (0 ≤ v ∧ v ≤ 63 → ∃ t, exec (.sfDelta ch i m d) s = .next t
                ∧ StoresSf s t ch.val m.toNat fun j =>
                  if j = i.val then BitVec.ofNat 6 v.toNat else entry (s.chan ch.val).sf j)
              ∧ (v < 0 ∨ 63 < v → exec (.sfDelta ch i m d) s = .next { s with
                  bitPos := s.bitPos + m.toNat
                  faultCode := 8
                  faultInfo := BitVec.ofNat 32 (256 * ch.val + i.val)
                  phase := .faulted })

/-- The intensity field stores eight values, or eight times 15 without consuming a bit (R120); the HFR scales
are stored from index R06 + R07 on (R121). -/
def Obligations.ExtensionFields : Prop :=
  ∀ (s : State) (ch : Chan),
    (∀ vs : List (BitVec 4), vs.length = 8 →
        ∃ t, exec (.intensitySet ch vs) s = .next t
          ∧ StoresInt s t ch.val 32 fun k => vs.getD k 0)
      ∧ (∃ t, exec (.intensityAll15 ch) s = .next t ∧ StoresInt s t ch.val 0 fun _ => 15)
      ∧ ∀ vs : List (BitVec 6), s.r06.toNat + s.r07.toNat + vs.length ≤ 128 →
          ∃ t, exec (.hfrScale ch vs) s = .next t
            ∧ StoresSf s t ch.val (6 * vs.length) fun j =>
              if s.r06.toNat + s.r07.toNat ≤ j ∧ j < s.r06.toNat + s.r07.toNat + vs.length then
                vs.getD (j - (s.r06.toNat + s.r07.toNat)) 0
              else entry (s.chan ch.val).sf j

/-- The block checksum changes nothing (log 22), and no read sees the last two bytes of the block: two states
whose blocks differ only there deliver the same bits (R82, R110). -/
def Obligations.ChecksumIsNeverRead : Prop :=
  (∀ (v : BitVec 16) (s : State), exec (.blockChecksum v) s = .next s)
    ∧ ∀ (s s' : State) (n : Nat), n ≤ 16 →
      s.bitLimit = 8 * s.blockSize.toNat - 16 → s'.bitLimit = s.bitLimit → s'.bitPos = s.bitPos →
      (∀ i, i + 2 < s.blockSize.toNat → s'.blockByte i = s.blockByte i) →
      s'.peek n = s.peek n

/-! ### Code words -/

/-- Every code word of resolutions 0..7 and every zero code of resolutions 8..15: its bits are its encoding, and
it takes them and stores BASE x value (R96, R97, R129, R132). -/
def Obligations.CodeWordsWithoutMagnitude : Prop :=
  ∀ (d : Slot) (s : State) (c : CodeWord), c ∈ plainCodeWords →
    CodeWordDoes (c.instr d) d c.res (c.bits.map (· == 1)) c.value s

/-- The code words of resolutions 8..15 with a magnitude: magnitude first, then the sign, which is 1 for a
negative value (R97, R131, R132). -/
def Obligations.CodeWordsWithMagnitude : Prop :=
  MagnitudeCodes 4 8 .codeR8Mag ∧ MagnitudeCodes 5 9 .codeR9Mag ∧ MagnitudeCodes 6 10 .codeR10Mag
    ∧ MagnitudeCodes 7 11 .codeR11Mag ∧ MagnitudeCodes 8 12 .codeR12Mag
    ∧ MagnitudeCodes 9 13 .codeR13Mag ∧ MagnitudeCodes 10 14 .codeR14Mag
    ∧ MagnitudeCodes 11 15 .codeR15Mag

/-! ### The arithmetic -/

/-- fadd, fsub and fmul by IEEE 754 (R8), on every two operands. Finite operands: the nearest binary32, ties to even,
where the exact result does not round beyond the largest finite value, and an infinity of its sign where it does; a
sum that is exactly zero is +0.0 but for (-0.0) + (-0.0). A product has the exclusive or of the signs, zeros
included. Infinite operands give infinities of the right sign, or a NaN for Inf - Inf and Inf x 0; a NaN operand
gives a NaN (R149), which one is free (log 7). The values are in units of 2^-149, a product's in units of 2^-298. -/
def Obligations.RoundingIsNearestEven : Prop :=
  ∀ a b : F32,
    (fFinite a = true → fFinite b = true →
        (|fInt a + fInt b| < overflowBound → IsNearestEven (fadd a b) (fInt a + fInt b) 1)
          ∧ (|fInt a - fInt b| < overflowBound → IsNearestEven (fsub a b) (fInt a - fInt b) 1)
          ∧ (|fInt a * fInt b| < overflowBound * 2 ^ 149 →
            IsNearestEven (fmul a b) (fInt a * fInt b) (2 ^ 149))
          ∧ (overflowBound ≤ fInt a + fInt b → fadd a b = 0x7F800000)
          ∧ (fInt a + fInt b ≤ -overflowBound → fadd a b = 0xFF800000)
          ∧ (overflowBound ≤ fInt a - fInt b → fsub a b = 0x7F800000)
          ∧ (fInt a - fInt b ≤ -overflowBound → fsub a b = 0xFF800000)
          ∧ (overflowBound * 2 ^ 149 ≤ |fInt a * fInt b| → IsInfinity (fmul a b))
          ∧ (fInt a + fInt b = 0 →
            fadd a b = if a = 0x80000000 ∧ b = 0x80000000 then 0x80000000 else 0x00000000)
          ∧ (fInt a - fInt b = 0 →
            fsub a b = if a = 0x80000000 ∧ b = 0x00000000 then 0x80000000 else 0x00000000))
      ∧ (fIsNaN (fmul a b) = false → (fmul a b).getLsbD 31 = (a.getLsbD 31 ^^ b.getLsbD 31))
      ∧ IsInfiniteSum (fadd a b) a b ∧ IsInfiniteSum (fsub a b) a (b ^^^ 0x80000000)
      ∧ (IsInfinity a ∨ IsInfinity b → fIsNaN a = false → fIsNaN b = false →
        (fInt a ≠ 0 ∧ fInt b ≠ 0 → IsInfinity (fmul a b))
          ∧ (fInt a = 0 ∨ fInt b = 0 → fIsNaN (fmul a b) = true))
      ∧ (fIsNaN a = true ∨ fIsNaN b = true →
        fIsNaN (fadd a b) = true ∧ fIsNaN (fsub a b) = true ∧ fIsNaN (fmul a b) = true)

/-- `float(q)` converts an integer of magnitude below 2^24 exactly (R8, R132). -/
def Obligations.FloatOfIntegerIsExact : Prop :=
  ∀ q : Int, |q| < 2 ^ 24 → fFinite (fOfInt q) = true ∧ fInt (fOfInt q) = q * 2 ^ 149

/-- The clamp keeps a sample in [-1, 1] bit-exact and takes the others to the nearer end (R152); a volume of 1.0
leaves a sample as it is (R151); the words of formats 0..3 are in their ranges, each the truncated product of its
rule, and format 4 is the pattern itself (R153-R157). -/
def Obligations.SampleConversion : Prop :=
  ∀ f : F32, fIsNaN f = false →
    fmul f 0x3F800000 = f
      ∧ (2 ^ 149 < fInt f → clampSample f = 0x3F800000)
      ∧ (fInt f < -(2 ^ 149) → clampSample f = 0xBF800000)
      ∧ (-(2 ^ 149) ≤ fInt f → fInt f ≤ 2 ^ 149 →
          clampSample f = f
            ∧ (convertSample 0 f).toInt = fTrunc (fmul f 0x46FFFE00)
            ∧ |(convertSample 0 f).toInt| ≤ 32767
            ∧ ((convertSample 1 f).toNat : Int) = fTrunc (fmul f 0x42FE0000) + 128
            ∧ 1 ≤ (convertSample 1 f).toNat ∧ (convertSample 1 f).toNat ≤ 255
            ∧ (convertSample 2 f).toInt = fTrunc (fmul f 0x4AFFFFFE)
            ∧ |(convertSample 2 f).toInt| ≤ 8388607
            ∧ (convertSample 3 f).toInt = min (fTrunc (fmul f 0x4F000000)) 2147483647
            ∧ convertSample 4 f = f)

/-! ### The operations of the decoder step -/

/-- DESCRAMBLE replaces each byte of the block by its CIPHER entry, once, and changes no other byte and nothing
else (R105). -/
def Obligations.DescrambleSubstitutesOnce : Prop :=
  ∀ s : State, s.mem.wf = true → s.blockSize.toNat ≤ 65535 →
    ∃ t, exec .descramble s = .next t ∧ { t with mem := s.mem } = s
      ∧ (∀ i, i < s.blockSize.toNat →
          memRead t.mem (0x10000 + i)
            = memRead s.mem (0x1100 + (memRead s.mem (0x10000 + i)).toNat))
      ∧ ∀ a, a < 0x10000 ∨ 0x10000 + s.blockSize.toNat ≤ a → memRead t.mem a = memRead s.mem a

/-- STAGE1 in mode 0, 6 or 7: the scale factors, the extension field and the bits they cost (R115-R117, R120,
R121, R127). -/
def Obligations.StageOneWithoutDeltas : Prop :=
  ∀ (s : State) (ch : Chan), s.phase ≠ .faulted → (s.chan ch.val).count ≤ 128 →
    s.r06.toNat + s.r07.toNat + s.r09.toNat ≤ 128 → s.peek 3 = 0 ∨ 6 ≤ s.peek 3 →
    let k := s.chan ch.val
    let c := s.r06.toNat + s.r07.toNat
    let raw := if s.peek 3 = 0 then 0 else 6 * k.count
    let ext := s.bitPos + 3 + raw
    ∃ t, exec (.stage1 ch) s = .next t ∧ OnlyDatapath s t ∧ OnlyChannel s t ch.val
      ∧ { t.chan ch.val with sf := k.sf, int := k.int, res := k.res, base := k.base } = k
      ∧ t.bitPos = ext + (if k.type = .secondary then (if s.peekAt ext 4 < 15 then 32 else 0)
          else 6 * s.r09.toNat)
      ∧ (∀ i, i < 128 →
          (entry (t.chan ch.val).sf i).toNat
            = if k.type ≠ .secondary ∧ c ≤ i ∧ i < c + s.r09.toNat then
                s.peekAt (ext + 6 * (i - c)) 6
              else if s.peek 3 = 0 then 0
              else if i < k.count then s.peekAt (s.bitPos + 3 + 6 * i) 6
              else (entry k.sf i).toNat)
      ∧ ∀ j, j < 8 →
          (entry (t.chan ch.val).int j).toNat
            = if k.type ≠ .secondary then (entry k.int j).toNat
              else if s.peekAt ext 4 < 15 then s.peekAt (ext + 4 * j) 4 else 15

/-- The resolutions and base multipliers STAGE1 leaves where it does not fault, from the scale factors it
leaves (R122-R125): BASE is DQSTEP x RESSTEP, and +0.0 exactly where RES is 0. The entries of the two tables, at the
spec's default values (log 6), are their closed forms rounded (R99, R100), and DQSTEP shares its mantissas with
HFRRATIO (R101). -/
def Obligations.ResolutionAndBase : Prop :=
  (∀ i : Nat, i < 64 → IsRoundedRoot (dqStep i) 128 (128 ^ 64 * 2 ^ (53 * i)) (2 ^ (53 * 63)))
  ∧ (∀ i : Nat, i < 63 → dqStep i = fmul (hfrRatio (i + 1)) 0x34000000)
  ∧ resStep 0 = 0
  ∧ (∀ r : Nat, 1 ≤ r → r ≤ 15 →
      IsRoundedRoot (resStep r) 1 2 (if r ≤ 7 then 2 * r + 1 else 2 ^ (r - 3) - 1))
  ∧ ∀ (s : State) (ch : Chan), s.phase ≠ .faulted → (s.chan ch.val).count ≤ 128 →
    ∃ t, exec (.stage1 ch) s = .next t
      ∧ (t.phase ≠ .faulted → ∀ i, i < 128 →
          let v := (entry (t.chan ch.val).sf i).toNat
          let r := (entry (t.chan ch.val).res i).toNat
          let thr : Int := (s.ath i).toNat + (s.noise + i).fdiv 256 - (5 * v / 2 : Nat) + 1
          let inverted : List Nat :=
            List.replicate 6 14 ++ List.replicate 6 13 ++ List.replicate 6 12 ++ List.replicate 6 11
              ++ List.replicate 7 10 ++ List.replicate 6 9 ++ List.replicate 6 8 ++ [7, 6, 6, 5]
              ++ List.replicate 3 4 ++ List.replicate 3 3 ++ List.replicate 4 2
          ((s.chan ch.val).count ≤ i →
              r = 0 ∧ entry (t.chan ch.val).base i = entry (s.chan ch.val).base i)
            ∧ (i < (s.chan ch.val).count →
              (v = 0 → r = 0)
                ∧ (v ≠ 0 → thr < 0 → r = 15)
                ∧ (v ≠ 0 → 57 ≤ thr → r = 1)
                ∧ (v ≠ 0 → 0 ≤ thr → thr < 57 → r = inverted.getD thr.toNat 0)
                ∧ entry (t.chan ch.val).base i = fmul (dqStep v) (resStep r)
                ∧ (entry (t.chan ch.val).base i = 0 ↔ r = 0)))

/-- HFR mirrors the coded band upward, scaled by the ratio of each group's scale to the source's scale factor,
clears SPEC[ch][127] and changes nothing else; it does nothing for a type-2 channel or when R08 is 0 (R134-R136,
R140 (c)). The entries of HFRRATIO, at the spec's default values (log 6), are 0 at -63 and the closed form rounded
at -62..63 (R101). -/
def Obligations.HfrMirrorsTheCodedBand : Prop :=
  hfrRatio (-63) = 0
  ∧ (∀ j : Nat, 1 ≤ j → j ≤ 126 →
      IsRoundedRoot (hfrRatio ((j : Int) - 63)) 128 (2 ^ (53 * j)) (2 ^ (53 * 63)))
  ∧ ∀ (s : State) (ch : Chan), s.phase ≠ .faulted →
    let k := s.chan ch.val
    let c := s.r06.toNat + s.r07.toNat
    (k.type = .secondary ∨ s.r08 = 0 → exec (.hfr ch) s = .next s)
      ∧ (k.type ≠ .secondary → s.r08 ≠ 0 → s.r05.toNat ≤ 128 → c ≤ s.r05.toNat →
          s.r05.toNat ≤ 2 * c → s.r05.toNat - c ≤ s.r09.toNat * s.r08.toNat →
          ∃ t, exec (.hfr ch) s = .next t
            ∧ StoresSpec s t ch.val 0 fun i =>
              if i = 127 then 0
              else if c ≤ i ∧ i < s.r05.toNat then
                fmul (hfrRatio ((entry k.sf (c + (i - c) / s.r08.toNat)).toNat
                    - (entry k.sf (2 * c - 1 - i)).toNat))
                  (entry k.spec (2 * c - 1 - i))
              else entry k.spec i)

/-- HFR raises HfrUnderflow where the band to reconstruct is wider than the coded band: at target index 2c, with
c = R06 + R07 (R135, R182). -/
def Obligations.HfrUnderflowFaults : Prop :=
  ∀ (s : State) (ch : Chan), s.phase ≠ .faulted →
    let c := s.r06.toNat + s.r07.toNat
    (s.chan ch.val).type ≠ .secondary → s.r08 ≠ 0 → s.r05.toNat ≤ 128 → 2 * c < s.r05.toNat →
    s.r05.toNat - c ≤ s.r09.toNat * s.r08.toNat →
    ∃ t, exec (.hfr ch) s = .next t ∧ t.phase = .faulted ∧ t.faultCode = 9
      ∧ t.faultInfo = BitVec.ofNat 32 (256 * ch.val + 2 * c)
      ∧ { t with phase := s.phase, faultCode := s.faultCode, faultInfo := s.faultInfo,
                 chans := s.chans } = s
      ∧ OnlyChannel s t ch.val
      ∧ { t.chan ch.val with spec := (s.chan ch.val).spec } = s.chan ch.val

/-- INTENSITY scales the range R06..R05-1 of a type-1 channel by r1 and writes the same coefficients scaled by r2
into the next channel, where the gate is open, and does nothing otherwise; gate and factor are the two settings
the spec leaves open (R137, R138; log 5). r1 and r2 are the entries of R137's table of factors, which are what its
formulas give from INTRATIO, whose entries are their closed form rounded (R102; log 6). -/
def Obligations.IntensityScalesThePair : Prop :=
  (∀ k : Nat, k < 16 → intRatio k = primaryFactors.getD k 0
      ∧ fsub (intRatio k) 0x40000000 = (secondaryFactors .r1Minus2).getD k 0
      ∧ fsub 0x40000000 (intRatio k) = (secondaryFactors .twoMinusR1).getD k 0)
  ∧ (∀ k : Nat, k < 14 → IsRoundedRoot (intRatio k) 1 (14 - k) 7)
  ∧ intRatio 14 = 0 ∧ intRatio 15 = 0
  ∧ ∀ (s : State) (ch : Chan) (sf : Sub), ch.val < 15 →
    let k := s.chan ch.val
    let k' := s.chan (ch.val + 1)
    let int := entry k'.int sf.val
    let isOpen : Prop := match Config.intensityGate with
      | .headerBands => s.r07 ≠ 0
      | .subframeNonzero => int ≠ 0
    let r1 := primaryFactors.getD int.toNat 0
    let r2 := (secondaryFactors Config.secondaryFactor).getD int.toNat 0
    ∃ t, exec (.intensity ch sf) s = .next t
      ∧ (¬(k.type = .primary ∧ isOpen) → t = s)
      ∧ (k.type = .primary ∧ isOpen →
          { t with chans := s.chans } = s
            ∧ (∀ c, c ≠ ch.val → c ≠ ch.val + 1 → t.chan c = s.chan c)
            ∧ { t.chan ch.val with spec := k.spec } = k
            ∧ { t.chan (ch.val + 1) with spec := k'.spec } = k'
            ∧ ∀ i, i < 128 →
              entry (t.chan ch.val).spec i
                  = (if s.r06.toNat ≤ i ∧ i < s.r05.toNat then fmul (entry k.spec i) r1
                    else entry k.spec i)
                ∧ entry (t.chan (ch.val + 1)).spec i
                  = (if s.r06.toNat ≤ i ∧ i < s.r05.toNat then fmul (entry k.spec i) r2
                    else entry k'.spec i))

/-- One level of BUTTERFLY writes the sums and differences of the neighbouring pairs of its source, whatever its
destination held (R141). -/
def Obligations.ButterflyLevelPairs : Prop :=
  ∀ (lv : Nat) (src dst : Vector F32 128) (j k : Nat), lv < 7 → j < 2 ^ lv → k < 64 >>> lv →
    let c2 := 64 >>> lv
    let n := j * c2 + k
    entry (butterflyLevel lv src dst) (j * (2 * c2) + k)
        = fadd (entry src (2 * n + 1)) (entry src (2 * n))
      ∧ entry (butterflyLevel lv src dst) (j * (2 * c2) + c2 + k)
        = fsub (entry src (2 * n)) (entry src (2 * n + 1))

/-- One level of ROTATION rotates the pairs of its source by the level's ROM entries, whatever its destination
held (R143). -/
def Obligations.RotationLevelPairs : Prop :=
  ∀ (p : Config.Params) (lv : Nat) (src dst : Vector F32 128) (j k : Nat),
    lv < 7 → j < 64 >>> lv → k < 2 ^ lv →
    let c2 := 2 ^ lv
    let a := entry src (j * (2 * c2) + k)
    let b := entry src (j * (2 * c2) + c2 + k)
    let sn := p.synthSin lv (j * c2 + k)
    let cs := p.synthCos lv (j * c2 + k)
    entry (rotationLevel p lv src dst) (j * (2 * c2) + k) = fsub (fmul a sn) (fmul b cs)
      ∧ entry (rotationLevel p lv src dst) (j * (2 * c2) + 2 * c2 - 1 - k)
        = fadd (fmul a cs) (fmul b sn)

/-- The transform is the seven BUTTERFLY levels and then the seven ROTATION levels, each from the array the level
before it wrote, and what the scratch buffer held before does not matter (R142, R48). -/
def Obligations.TransformIgnoresScratch : Prop :=
  ∀ (p : Config.Params) (spec scratch any : Vector F32 128),
    (transform p spec scratch).1
      = [0, 1, 2, 3, 4, 5, 6].foldl (fun v lv => rotationLevel p lv v any)
          ([0, 1, 2, 3, 4, 5, 6].foldl (fun v lv => butterflyLevel lv v any) spec)

/-- SYNTH: WAV2 is the transform of SPEC; the 128 samples are the windowed overlap-add with the old WAV3; the new
WAV3 is the windowed first half of WAV2 (R145-R147). Of the other channels and of the rest nothing changes. -/
def Obligations.SynthOverlapAdd : Prop :=
  ∀ (s : State) (ch : Chan) (sf : Sub),
    let k := s.chan ch.val
    let x := (transform Config.params k.spec k.wav1).1
    let w := Config.synthWindow
    ∃ t, exec (.synth ch sf) s = .next t ∧ { t with chans := s.chans } = s ∧ OnlyChannel s t ch.val
      ∧ { t.chan ch.val with
          spec := k.spec, wav1 := k.wav1, wav2 := k.wav2, wav3 := k.wav3, wave := k.wave } = k
      ∧ (t.chan ch.val).spec = x ∧ (t.chan ch.val).wav2 = x
      ∧ (∀ f, f ≠ sf.val → ∀ i, t.wave ch.val f i = s.wave ch.val f i)
      ∧ (∀ i, i < 64 →
          t.wave ch.val sf.val i = fadd (fmul (entry x (64 + i)) (w i)) (entry k.wav3 i)
            ∧ t.wave ch.val sf.val (64 + i)
              = fsub (fmul (w (64 + i)) (entry x (127 - i))) (entry k.wav3 (64 + i)))
      ∧ ∀ i, i < 64 →
          entry (t.chan ch.val).wav3 i = fmul (entry x (63 - i)) (w (127 - i))
            ∧ entry (t.chan ch.val).wav3 (64 + i) = fmul (w (63 - i)) (entry x i)

/-- Silence stays silent: for finite ROMs, an all-zero spectrum and overlap give samples and a new overlap that
are all +0.0 or -0.0 (R148). Stated of the stage with its ROMs as arguments, because the ROMs are OPEN
parameters. -/
def Obligations.SilenceStaysSilent : Prop :=
  ∀ (p : Config.Params) (k : Channel) (sf : Nat), sf < 8 →
    (∀ lv t, lv < 7 → t < 64 → fFinite (p.synthSin lv t) = true ∧ fFinite (p.synthCos lv t) = true) →
    (∀ i, i < 128 → fFinite (p.synthWindow i) = true) →
    (∀ i, i < 128 → entry k.spec i = 0 ∧ entry k.wav3 i = 0) →
    let zero (x : F32) : Prop := x = 0x00000000 ∨ x = 0x80000000
    ∀ i, i < 128 →
      zero (entry ((synthChannel p sf k).wave[sf]?.getD (Vector.replicate 128 0)) i)
        ∧ zero (entry (synthChannel p sf k).wav3 i)

/-- PCM_OUT, where no sample times VOLUME is a NaN: every sample of channels 0..C-1 stands converted at its place,
the words at or beyond 1024 x C keep their values, and nothing else changes (R150-R152, R158). -/
def Obligations.PcmOutWritesTheBlock : Prop :=
  ∀ s : State, pcmWf s.pcm = true → s.channels.toNat ≤ 16 →
    (∀ sf j ch, sf < 8 → j < 128 → ch < s.channels.toNat →
        fIsNaN (fmul (s.wave ch sf j) s.volume) = false) →
    ∃ t, exec .pcmOut s = .next t ∧ { t with pcm := s.pcm } = s
      ∧ (∀ sf j ch, sf < 8 → j < 128 → ch < s.channels.toNat →
          pcmRead t.pcm ((sf * 128 + j) * s.channels.toNat + ch)
            = convertSample s.pcmFormat.toNat (clampSample (fmul (s.wave ch sf j) s.volume)))
      ∧ ∀ w, 1024 * s.channels.toNat ≤ w → pcmRead t.pcm w = pcmRead s.pcm w

/-- PCM_OUT, where a sample times VOLUME is a NaN and none before it in the order sf, j, ch is: NonFiniteSample,
PCMBUF and all else unchanged (R150, R152, R183). -/
def Obligations.PcmOutFaultsOnTheFirstNaN : Prop :=
  ∀ (s : State) (sf j ch : Nat), s.channels.toNat ≤ 16 → sf < 8 → j < 128 → ch < s.channels.toNat →
    fIsNaN (fmul (s.wave ch sf j) s.volume) = true →
    (∀ sf' j' ch', sf' < 8 → j' < 128 → ch' < s.channels.toNat →
        sf' < sf ∨ (sf' = sf ∧ (j' < j ∨ (j' = j ∧ ch' < ch))) →
        fIsNaN (fmul (s.wave ch' sf' j') s.volume) = false) →
    exec .pcmOut s = .next { s with
      faultCode := 10
      faultInfo := BitVec.ofNat 32 (65536 * ch + 256 * sf + j)
      phase := .faulted }

/-! ### Invariants -/

/-- The state after reset is good. -/
def Obligations.ResetIsGood : Prop := State.reset.Good

/-- Every step keeps the canonical form of the memory and of PCMBUF. -/
def Obligations.StepKeepsStoresCanonical : Prop :=
  ∀ s t : State, s.Canonical → step s = .next t → t.Canonical

/-- Every step keeps the fault record: a code of 1..10 exactly in FAULTED, no information word without a code,
REFUSED only in FAULTED (R184, R186). -/
def Obligations.StepKeepsFaultRecord : Prop :=
  ∀ s t : State, s.FaultRecord → step s = .next t → t.FaultRecord

/-- From a configured state, every step keeps BITPOS at most 231424, so that the 32-bit register cannot wrap
(R112). -/
def Obligations.StepKeepsBitPosBounded : Prop :=
  ∀ s t : State, s.Configured → s.BitPosBounded → step s = .next t → t.BitPosBounded

/-- Every step keeps a state good: besides the above, in CONFIGURED and BUSY the configuration is a checked one
with what CONFIGURE derived from it (R164), in UNCONFIGURED the datapath is as after reset, and the words of
PCMBUF from 1024 x C on read 0 (R172). -/
def Obligations.StepKeepsGood : Prop :=
  ∀ s t : State, s.Good → step s = .next t → t.Good

/-! ### The whole machine -/

/-- The phase changes only as R37 lists. -/
def Obligations.PhaseTransitions : Prop :=
  ∀ s t : State, step s = .next t → t.phase ≠ s.phase →
    (s.nextInstr = some .reset ∧ t.phase = .unconfigured)
      ∨ (s.nextInstr = some .configure ∧ s.phase = .unconfigured ∧ s.conditions
          ∧ t.phase = .configured)
      ∨ (s.nextInstr = some .decodeBlock ∧ s.phase = .configured ∧ t.phase = .busy)
      ∨ (s.DecoderTurn ∧ s.phase = .busy ∧ t.phase = .configured)
      ∨ (s.phase ≠ .faulted ∧ t.phase = .faulted)

/-- RESET is the only way out of FAULTED: until it, nothing of the spec's state changes but REFUSED, which is
never cleared, and so the fault recorded is the first since reset (R186, R192). -/
def Obligations.FaultedUntilReset : Prop :=
  ∀ s t : State, s.phase = .faulted → step s = .next t →
    (s.nextInstr = some .reset ∧ t.phase = .unconfigured)
      ∨ ({ t with refused := s.refused, port := s.port } = s ∧ (s.refused = true → t.refused = true))

/-- From CONFIGURE until RESET no step changes a config register, ATH or CIPHER (R37, R76, R201). -/
def Obligations.ConfigurationHoldsUntilReset : Prop :=
  ∀ s t : State, s.mem.wf = true → s.phase ≠ .unconfigured → step s = .next t →
    s.nextInstr ≠ some .reset →
    (∀ r : Reg, r.config = true → t.reg r = s.reg r) ∧ t.r09 = s.r09 ∧ t.chType = s.chType
      ∧ (∀ i, i < 128 → t.ath i = s.ath i) ∧ ∀ i, i < 256 → t.cipher i = s.cipher i

/-- What the host sees of a decoder step: the block is substituted and no other byte changes; then either the
block is completed, or a decode fault is recorded and PCMBUF, DONE and BLOCKS_DONE are as before; of the other
registers only BITPOS changes, and BUSY ends (R78, R161, R186, R187). -/
def Obligations.DecoderStepAsTheHostSeesIt : Prop :=
  ∀ s : State, s.DecoderTurn → s.phase = .busy → s.mem.wf = true → pcmWf s.pcm = true →
    s.channels.toNat ≤ 16 → s.blockSize.toNat ≤ 65535 →
    ∃ t, step s = .next t
      ∧ { t with
          phase := s.phase, done := s.done, faultCode := s.faultCode, faultInfo := s.faultInfo,
          bitPos := s.bitPos, blocksDone := s.blocksDone, noise := s.noise, bitLimit := s.bitLimit,
          chans := s.chans, mem := s.mem, pcm := s.pcm } = s.afterEvent
      ∧ (∀ i, i < s.blockSize.toNat → t.blockByte i = s.cipher (s.blockByte i).toNat)
      ∧ (∀ a, a < 0x10000 ∨ 0x10000 + s.blockSize.toNat ≤ a → memRead t.mem a = memRead s.mem a)
      ∧ ((t.phase = .faulted ∧ 7 ≤ t.faultCode.toNat ∧ t.faultCode.toNat ≤ 10 ∧ t.done = s.done
            ∧ t.blocksDone = s.blocksDone ∧ t.pcm = s.pcm)
          ∨ (t.phase = .configured ∧ t.done = true ∧ t.blocksDone = s.blocksDone + 1
            ∧ t.faultCode = s.faultCode ∧ t.faultInfo = s.faultInfo
            ∧ ∀ w, 1024 * s.channels.toNat ≤ w → pcmRead t.pcm w = pcmRead s.pcm w))

/-- Channel state is private to its channel: a stage of a channel neither reads nor writes the state of another
channel, but for INTENSITY, which reads INT and writes SPEC of the next one (R58). -/
def Obligations.ChannelStateIsPrivate : Prop :=
  ∀ (s s' t t' : State) (ch : Chan) (sf : Sub),
    { s' with chans := s.chans } = s → s'.chan ch.val = s.chan ch.val →
    (∀ i ∈ [Instr.stage1 ch, .dequant ch sf, .hfr ch, .synth ch sf],
        exec i s = .next t → exec i s' = .next t' →
        OnlyChannel s t ch.val ∧ t'.chan ch.val = t.chan ch.val ∧ { t' with chans := t.chans } = t)
      ∧ ((s'.chan (ch.val + 1)).int = (s.chan (ch.val + 1)).int →
        exec (.intensity ch sf) s = .next t → exec (.intensity ch sf) s' = .next t' →
        (∀ c, c ≠ ch.val → c ≠ ch.val + 1 → t.chan c = s.chan c)
          ∧ { t.chan (ch.val + 1) with spec := (s.chan (ch.val + 1)).spec } = s.chan (ch.val + 1)
          ∧ t'.chan ch.val = t.chan ch.val ∧ { t' with chans := t.chans } = t)

/-- WAV3 is the only datapath state that carries from one block to the next: two states that agree on everything
but NOISE, BITPOS, BITLIMIT and the datapath arrays other than WAV3 agree, after a decoder step, on all the host
sees and, unless a fault ended it, on WAV3 (R50, R56). -/
def Obligations.OverlapIsTheOnlyCarry : Prop :=
  ∀ s s' t t' : State, s.Configured → s.phase = .busy → s.DecoderTurn →
    { s' with noise := s.noise, bitPos := s.bitPos, bitLimit := s.bitLimit, chans := s.chans } = s →
    (∀ ch, (s'.chan ch).type = (s.chan ch).type ∧ (s'.chan ch).count = (s.chan ch).count
        ∧ (s'.chan ch).wav3 = (s.chan ch).wav3) →
    step s = .next t → step s' = .next t' →
    { t' with noise := t.noise, chans := t.chans } = t
      ∧ (t.phase ≠ .faulted → ∀ ch, (t'.chan ch).wav3 = (t.chan ch).wav3)
end

