-- ==== Sys2Proof/Laws/Access.lean ====
section
/-! SUPPORT. The address map: what an address reaches, and that the decoder's BadAccess is the spec's list of
checks. -/

namespace Sys2Proof.Machine

/-- The register at a register's own index. -/
theorem Reg.ofIndex_index (r : Reg) : Reg.ofIndex r.index = some r := by cases r <;> rfl

/-- An index names a register exactly below 0x15. -/
theorem Reg.ofIndex_eq_none {n : Nat} : Reg.ofIndex n = none ↔ 0x15 ≤ n := by
  constructor
  · intro h
    by_contra hn
    interval_cases n <;> simp [Reg.ofIndex] at h
  · intro h
    unfold Reg.ofIndex
    split <;> first | omega | rfl

theorem Reg.index_of_ofIndex {n : Nat} {r : Reg} (h : Reg.ofIndex n = some r) : r.index = n := by
  by_cases hn : n < 0x15
  · interval_cases n <;> simp [Reg.ofIndex] at h <;> subst h <;> rfl
  · rw [(Reg.ofIndex_eq_none).mpr (by omega)] at h
    exact absurd h (by simp)

/-- What an address reaches at a width, and where that stands. -/
theorem target_some {n w : Nat} {t : Target} (h : target n w = some t) :
    (∃ r, t = .reg r ∧ w = 32 ∧ n = 4 * r.index)
      ∨ (∃ i : Idx, t = .ath i ∧ w = 8 ∧ n = 0x1000 + i.val)
      ∨ (∃ i : Fin 256, t = .cipher i ∧ w = 8 ∧ n = 0x1100 + i.val)
      ∨ (∃ i : Fin 65535, t = .blockbuf i ∧ w = 8 ∧ n = 0x10000 + i.val)
      ∨ ∃ i : Fin 16384, t = .pcmbuf i ∧ w = 32 ∧ n = 0x20000 + 4 * i.val := by
  unfold target at h
  split at h
  · split at h
    · obtain ⟨r, hr, rfl⟩ := Option.map_eq_some_iff.mp h
      exact .inl ⟨r, rfl, (‹_ ∧ _› : _ ∧ _).1, by
        rw [Reg.index_of_ofIndex hr]; have := (‹w = 32 ∧ n % 4 = 0›).2; omega⟩
    · simp at h
  · split at h
    · split at h
      · refine .inr (.inl ⟨⟨n - 0x1000, by omega⟩, ?_, ‹_›, ?_⟩)
        · simpa using h.symm
        · simp only; omega
      · simp at h
    · split at h
      · split at h
        · refine .inr (.inr (.inl ⟨⟨n - 0x1100, by omega⟩, ?_, ‹_›, ?_⟩))
          · simpa using h.symm
          · simp only; omega
        · simp at h
      · split at h
        · split at h
          · refine .inr (.inr (.inr (.inl ⟨⟨n - 0x10000, by omega⟩, ?_, ‹_›, ?_⟩)))
            · simpa using h.symm
            · simp only; omega
          · simp at h
        · split at h
          · split at h
            · refine .inr (.inr (.inr (.inr ⟨⟨(n - 0x20000) / 4, by omega⟩, ?_, (‹_ ∧ _› : _ ∧ _).1, ?_⟩)))
              · simpa using h.symm
              · have := (‹w = 32 ∧ n % 4 = 0›).2
                simp only; omega
            · simp at h
          · simp at h

/-- An address reaches nothing at a width exactly where it is unmapped, an unassigned register, of the wrong
width or a misaligned word. -/
theorem target_none {n w : Nat} :
    target n w = none ↔
      (¬wordWindow n ∧ ¬byteWindow n) ∨ (4 * 0x15 ≤ n ∧ n ≤ 0x00000FFF)
        ∨ (wordWindow n ∧ w ≠ 32) ∨ (byteWindow n ∧ w ≠ 8) ∨ (wordWindow n ∧ n % 4 ≠ 0) := by
  unfold target wordWindow byteWindow
  split
  · split
    · rw [Option.map_eq_none_iff, Reg.ofIndex_eq_none]; omega
    · simp only [true_iff]; omega
  · split
    · split
      · simp only [reduceCtorEq, false_iff]; omega
      · simp only [true_iff]; omega
    · split
      · split
        · simp only [reduceCtorEq, false_iff]; omega
        · simp only [true_iff]; omega
      · split
        · split
          · simp only [reduceCtorEq, false_iff]; omega
          · simp only [true_iff]; omega
        · split
          · split
            · simp only [reduceCtorEq, false_iff]; omega
            · simp only [true_iff]; omega
          · simp only [true_iff]; omega

/-- The decoder's BadAccess checks are the ones spec/60_exceptions.md R179 lists. -/
theorem failsChecks_iff (a : Access) : FailsChecks a ↔ a.bad = true := by
  obtain ⟨addr, w, dir⟩ := a
  unfold FailsChecks Access.bad
  simp only
  cases ht : target addr.toNat w with
  | none =>
    have := target_none.mp ht
    simp only [iff_true]
    tauto
  | some t =>
    have hn := (not_congr (target_none (n := addr.toNat) (w := w))).mp (by rw [ht]; simp)
    rcases target_some ht with ⟨r, rfl, _, hr⟩ | ⟨i, rfl, _, hi⟩ | ⟨i, rfl, _, hi⟩ | ⟨i, rfl, _, hi⟩ |
      ⟨i, rfl, _, hi⟩
    · have : r.index ≤ 0x14 := by cases r <;> decide
      constructor
      · intro h
        have h' : (dir ≠ .read ∧ (addr.toNat ∈ [4 * 0x00, 4 * 0x02, 4 * 0x04, 4 * 0x05, 4 * 0x06, 4 * 0x07,
              4 * 0x12] ∨ 0x00020000 ≤ addr.toNat ∧ addr.toNat ≤ 0x0002FFFF))
            ∨ (dir = .read ∧ addr.toNat = 4 * 0x01) := by tauto
        rw [hr] at h'
        cases dir <;> cases r <;> simp [Reg.index] at h' <;> simp [Reg.readable, Reg.writable, Reg.config]
      · intro h
        refine .inr (.inr (.inr (.inr (.inr ?_))))
        rw [hr]
        cases dir <;> cases r <;> simp [Reg.readable, Reg.writable, Reg.config] at h <;>
          simp [Reg.index]
    all_goals
      have hb := i.isLt
      cases dir <;> simp <;> (try unfold wordWindow byteWindow) <;> omega

/-- An access that fails a check decodes to BAD_ACCESS. -/
theorem decodeAccess_bad {a : Access} (h : a.bad = true) : decodeAccess a = .badAccess a := by
  obtain ⟨addr, w, dir⟩ := a
  unfold Access.bad at h
  unfold decodeAccess
  simp only at h ⊢
  cases ht : target addr.toNat w with
  | none => rfl
  | some t =>
    rw [ht] at h
    cases t with
    | reg r =>
      cases dir <;> cases r <;> simp [Reg.readable, Reg.writable, Reg.config] at h ⊢
    | ath i => simp at h
    | cipher i => simp at h
    | blockbuf i => simp at h
    | pcmbuf i => cases dir <;> simp at h ⊢

end Sys2Proof.Machine
end

