-- ==== Sys2Proof/Laws/Arrays.lean ====
section
/-! SUPPORT. Arrays: what reading an entry gives after one write, a filled range or a run of writes. -/

namespace Sys2Proof.Machine

variable {w n : Nat}

theorem entry_setIfInBounds (v : Vector (BitVec w) n) (i j : Nat) (x : BitVec w) :
    entry (v.setIfInBounds i x) j = if i = j ∧ j < n then x else entry v j := by
  unfold entry
  rw [Vector.getElem?_setIfInBounds]
  by_cases h : i = j <;> by_cases h2 : j < n <;> simp [h, h2]

theorem entry_setIfInBounds_self (v : Vector (BitVec w) n) {i : Nat} (x : BitVec w) (h : i < n) :
    entry (v.setIfInBounds i x) i = x := by
  simp [entry_setIfInBounds, h]

theorem entry_setIfInBounds_ne (v : Vector (BitVec w) n) {i j : Nat} (x : BitVec w) (h : i ≠ j) :
    entry (v.setIfInBounds i x) j = entry v j := by
  simp [entry_setIfInBounds, h]

theorem entry_outside (v : Vector (BitVec w) n) {i : Nat} (h : n ≤ i) : entry v i = 0 := by
  simp [entry, Nat.not_lt.mpr h]

@[simp] theorem entry_replicate (x : BitVec w) (i : Nat) :
    entry (Vector.replicate n x) i = if i < n then x else 0 := by
  unfold entry
  by_cases h : i < n <;> simp [h]

/-- Two arrays with the same entries are equal. -/
theorem entry_ext {u v : Vector (BitVec w) n} (h : ∀ i, i < n → entry u i = entry v i) : u = v := by
  apply Vector.ext
  intro i hi
  simpa [entry, hi] using h i hi

theorem entry_fillRange (v : Vector (BitVec w) n) (lo cnt : Nat) (f : Nat → BitVec w) (j : Nat) :
    entry (fillRange v lo cnt f) j = if lo ≤ j ∧ j < lo + cnt ∧ j < n then f j else entry v j := by
  unfold fillRange
  induction cnt generalizing lo v with
  | zero => simp; omega
  | succ c ih =>
    rw [List.range'_succ, List.foldl_cons, ih]
    rw [entry_setIfInBounds]
    by_cases h1 : lo = j
    · subst h1; by_cases h2 : lo < n <;> simp [h2]
    · by_cases h2 : lo + 1 ≤ j ∧ j < lo + 1 + c ∧ j < n
      · rw [if_pos h2, if_pos (by omega)]
      · rw [if_neg h2, if_neg (by omega), if_neg (by omega)]

theorem entry_writeRun (v : Vector (BitVec w) n) (lo : Nat) (l : List (BitVec w)) (j : Nat) :
    entry (writeRun v lo l) j =
      if lo ≤ j ∧ j < lo + l.length ∧ j < n then l.getD (j - lo) 0 else entry v j := by
  induction l generalizing lo v with
  | nil => simp [writeRun]; omega
  | cons x xs ih =>
    rw [writeRun, ih, entry_setIfInBounds, List.length_cons]
    by_cases h1 : lo = j
    · subst h1
      by_cases h2 : lo < n <;> simp [h2]
    · by_cases h2 : lo + 1 ≤ j ∧ j < lo + 1 + xs.length ∧ j < n
      · rw [if_pos h2, if_pos (by omega)]
        obtain ⟨d, rfl⟩ : ∃ d, j = lo + 1 + d := ⟨j - (lo + 1), by omega⟩
        simp [show lo + 1 + d - lo = d + 1 by omega]
      · rw [if_neg h2, if_neg (by omega), if_neg (by omega)]

end Sys2Proof.Machine
end

