-- ==== Sys2Proof/Laws/Cells.lean ====
section
/-! SUPPORT. Sparse stores: a write keeps the canonical form; a read after a write. -/

namespace Sys2Proof.Machine

variable {w : Nat} {dflt : Nat → BitVec w} {dom : Nat → Bool}

theorem cellsWfFrom_cons {lo b : Nat} {u : BitVec w} {t : Cells w} :
    cellsWfFrom dflt dom lo ((b, u) :: t) = true ↔
      lo ≤ b ∧ dom b = true ∧ u ≠ dflt b ∧ cellsWfFrom dflt dom (b + 1) t = true := by
  simp [cellsWfFrom, and_assoc]

theorem cellsWfFrom_mono {lo lo' : Nat} (h : lo' ≤ lo) {m : Cells w}
    (hm : cellsWfFrom dflt dom lo m = true) : cellsWfFrom dflt dom lo' m = true := by
  cases m with
  | nil => rfl
  | cons c t =>
    obtain ⟨b, u⟩ := c
    rw [cellsWfFrom_cons] at hm ⊢
    exact ⟨by omega, hm.2⟩

/-- Below the lower bound of a canonical store nothing is listed. -/
theorem cellsRead_below {lo a : Nat} {m : Cells w} (hm : cellsWfFrom dflt dom lo m = true)
    (h : a < lo) : cellsRead dflt m a = dflt a := by
  induction m generalizing lo with
  | nil => rfl
  | cons c t ih =>
    obtain ⟨b, u⟩ := c
    rw [cellsWfFrom_cons] at hm
    rw [cellsRead, if_neg (by omega)]
    exact ih hm.2.2.2 (by omega)

theorem cellsWfFrom_write {lo : Nat} {m : Cells w} {a : Nat} {v : BitVec w} (hd : dom a = true)
    (h : lo ≤ a) (hm : cellsWfFrom dflt dom lo m = true) :
    cellsWfFrom dflt dom lo (cellsWrite dflt m a v) = true := by
  induction m generalizing lo with
  | nil =>
    rw [cellsWrite]
    split
    · rfl
    · rw [cellsWfFrom_cons]; exact ⟨h, hd, ‹_›, rfl⟩
  | cons c t ih =>
    obtain ⟨b, u⟩ := c
    have hc := cellsWfFrom_cons.mp hm
    rw [cellsWrite]
    split
    · split
      · exact hm
      · rw [cellsWfFrom_cons]
        exact ⟨h, hd, ‹_›, cellsWfFrom_cons.mpr ⟨by omega, hc.2⟩⟩
    · split
      · subst_vars
        split
        · exact cellsWfFrom_mono (by omega) hc.2.2.2
        · exact cellsWfFrom_cons.mpr ⟨hc.1, hd, ‹_›, hc.2.2.2⟩
      · exact cellsWfFrom_cons.mpr ⟨hc.1, hc.2.1, hc.2.2.1, ih (by omega) hc.2.2.2⟩

/-- A write inside the domain keeps the canonical form. -/
theorem cellsWf_write {m : Cells w} {a : Nat} {v : BitVec w} (hd : dom a = true)
    (hm : cellsWf dflt dom m = true) : cellsWf dflt dom (cellsWrite dflt m a v) = true :=
  cellsWfFrom_write hd (Nat.zero_le _) hm

theorem cellsRead_writeFrom {lo : Nat} {m : Cells w} (a : Nat) (v : BitVec w)
    (hm : cellsWfFrom dflt dom lo m = true) (c : Nat) :
    cellsRead dflt (cellsWrite dflt m a v) c = if c = a then v else cellsRead dflt m c := by
  induction m generalizing lo with
  | nil =>
    rw [cellsWrite]
    split
    · by_cases h : c = a <;> simp_all [cellsRead]
    · by_cases h : c = a <;> simp [cellsRead, h]
  | cons e t ih =>
    obtain ⟨b, u⟩ := e
    have hc := cellsWfFrom_cons.mp hm
    rw [cellsWrite]
    split
    · have hb : cellsRead dflt ((b, u) :: t) a = dflt a := by
        rw [cellsRead, if_neg (by omega)]
        exact cellsRead_below hc.2.2.2 (by omega)
      split
      · by_cases h : c = a
        · subst h; simp_all
        · simp [h]
      · by_cases h : c = a <;> simp [cellsRead, h]
    · split
      · subst_vars
        split
        · by_cases h : c = b
          · subst h
            rw [cellsRead_below hc.2.2.2 (by omega)]
            simp_all
          · simp [cellsRead, h]
        · by_cases h : c = b <;> simp [cellsRead, h]
      · rw [cellsRead, ih hc.2.2.2, cellsRead]
        by_cases h : c = b
        · subst h; rw [if_pos rfl, if_neg (by omega), if_pos rfl]
        · rw [if_neg h, if_neg h]

/-- A read after a write gives the value written at that key, and leaves every other key alone. -/
theorem cellsRead_write {m : Cells w} (a : Nat) (v : BitVec w) (hm : cellsWf dflt dom m = true)
    (c : Nat) : cellsRead dflt (cellsWrite dflt m a v) c = if c = a then v else cellsRead dflt m c :=
  cellsRead_writeFrom a v hm c

/-- Every write of a byte keeps the memory's canonical form. -/
theorem memWrite_wf {m : Memory} (a : Nat) (v : Byte) (hm : m.wf = true) : (memWrite m a v).wf = true := by
  unfold memWrite
  split
  · exact cellsWf_write ‹_› hm
  · exact hm

/-- What a byte reads as after a write. -/
theorem memRead_memWrite {m : Memory} (a : Nat) (v : Byte) (hm : m.wf = true) (c : Nat) :
    memRead (memWrite m a v) c = if c = a ∧ memMapped a = true then v else memRead m c := by
  unfold memRead memWrite
  by_cases h : memMapped a = true
  · rw [if_pos h, cellsRead_write a v hm]; simp [h]
  · simp [h]

/-- Every write of a sample keeps the canonical form of PCMBUF. -/
theorem pcmWrite_wf {p : Cells 32} (a : Nat) (v : Word) (hp : pcmWf p = true) :
    pcmWf (pcmWrite p a v) = true := by
  unfold pcmWrite
  split
  · exact cellsWf_write ‹_› hp
  · exact hp

/-- What a word of PCMBUF reads as after a write. -/
theorem pcmRead_pcmWrite {p : Cells 32} (a : Nat) (v : Word) (hp : pcmWf p = true) (c : Nat) :
    pcmRead (pcmWrite p a v) c = if c = a ∧ a < 16384 then v else pcmRead p c := by
  unfold pcmRead pcmWrite
  by_cases h : a < 16384
  · rw [if_pos (by simpa [pcmMapped] using h), cellsRead_write a v hp]; simp [h]
  · rw [if_neg (by simpa [pcmMapped] using h)]; simp [h]

end Sys2Proof.Machine
end

