-- ==== Sys2Proof/Laws/State.lean ====
section
/-! SUPPORT. One lemma per field per update of the state, each true by unfolding. -/

namespace Sys2Proof.Machine

@[simp] theorem State.raise_phase (s : State) (c : Cause) : (s.raise c).phase = .faulted := rfl
@[simp] theorem State.raise_done (s : State) (c : Cause) : (s.raise c).done = s.done := rfl
@[simp] theorem State.raise_refused (s : State) (c : Cause) : (s.raise c).refused = s.refused := rfl
@[simp] theorem State.raise_faultCode (s : State) (c : Cause) : (s.raise c).faultCode = c.code := rfl
@[simp] theorem State.raise_faultInfo (s : State) (c : Cause) : (s.raise c).faultInfo = c.info := rfl
@[simp] theorem State.raise_irqEn (s : State) (c : Cause) : (s.raise c).irqEn = s.irqEn := rfl
@[simp] theorem State.raise_bitPos (s : State) (c : Cause) : (s.raise c).bitPos = s.bitPos := rfl
@[simp] theorem State.raise_blocksDone (s : State) (c : Cause) : (s.raise c).blocksDone = s.blocksDone := rfl
@[simp] theorem State.raise_chType (s : State) (c : Cause) : (s.raise c).chType = s.chType := rfl
@[simp] theorem State.raise_channels (s : State) (c : Cause) : (s.raise c).channels = s.channels := rfl
@[simp] theorem State.raise_blockSize (s : State) (c : Cause) : (s.raise c).blockSize = s.blockSize := rfl
@[simp] theorem State.raise_r01 (s : State) (c : Cause) : (s.raise c).r01 = s.r01 := rfl
@[simp] theorem State.raise_r02 (s : State) (c : Cause) : (s.raise c).r02 = s.r02 := rfl
@[simp] theorem State.raise_r03 (s : State) (c : Cause) : (s.raise c).r03 = s.r03 := rfl
@[simp] theorem State.raise_r04 (s : State) (c : Cause) : (s.raise c).r04 = s.r04 := rfl
@[simp] theorem State.raise_r05 (s : State) (c : Cause) : (s.raise c).r05 = s.r05 := rfl
@[simp] theorem State.raise_r06 (s : State) (c : Cause) : (s.raise c).r06 = s.r06 := rfl
@[simp] theorem State.raise_r07 (s : State) (c : Cause) : (s.raise c).r07 = s.r07 := rfl
@[simp] theorem State.raise_r08 (s : State) (c : Cause) : (s.raise c).r08 = s.r08 := rfl
@[simp] theorem State.raise_r09 (s : State) (c : Cause) : (s.raise c).r09 = s.r09 := rfl
@[simp] theorem State.raise_volume (s : State) (c : Cause) : (s.raise c).volume = s.volume := rfl
@[simp] theorem State.raise_pcmFormat (s : State) (c : Cause) : (s.raise c).pcmFormat = s.pcmFormat := rfl
@[simp] theorem State.raise_noise (s : State) (c : Cause) : (s.raise c).noise = s.noise := rfl
@[simp] theorem State.raise_bitLimit (s : State) (c : Cause) : (s.raise c).bitLimit = s.bitLimit := rfl
@[simp] theorem State.raise_chans (s : State) (c : Cause) : (s.raise c).chans = s.chans := rfl
@[simp] theorem State.raise_mem (s : State) (c : Cause) : (s.raise c).mem = s.mem := rfl
@[simp] theorem State.raise_pcm (s : State) (c : Cause) : (s.raise c).pcm = s.pcm := rfl
@[simp] theorem State.raise_port (s : State) (c : Cause) : (s.raise c).port = s.port := rfl

@[simp] theorem State.unspecified_phase (s : State) : s.unspecified.phase = s.phase := rfl
@[simp] theorem State.unspecified_done (s : State) : s.unspecified.done = s.done := rfl
@[simp] theorem State.unspecified_refused (s : State) : s.unspecified.refused = s.refused := rfl
@[simp] theorem State.unspecified_faultCode (s : State) : s.unspecified.faultCode = s.faultCode := rfl
@[simp] theorem State.unspecified_faultInfo (s : State) : s.unspecified.faultInfo = s.faultInfo := rfl
@[simp] theorem State.unspecified_irqEn (s : State) : s.unspecified.irqEn = s.irqEn := rfl
@[simp] theorem State.unspecified_bitPos (s : State) : s.unspecified.bitPos = s.bitPos := rfl
@[simp] theorem State.unspecified_blocksDone (s : State) : s.unspecified.blocksDone = s.blocksDone := rfl
@[simp] theorem State.unspecified_chType (s : State) : s.unspecified.chType = s.chType := rfl
@[simp] theorem State.unspecified_channels (s : State) : s.unspecified.channels = s.channels := rfl
@[simp] theorem State.unspecified_blockSize (s : State) : s.unspecified.blockSize = s.blockSize := rfl
@[simp] theorem State.unspecified_r01 (s : State) : s.unspecified.r01 = s.r01 := rfl
@[simp] theorem State.unspecified_r02 (s : State) : s.unspecified.r02 = s.r02 := rfl
@[simp] theorem State.unspecified_r03 (s : State) : s.unspecified.r03 = s.r03 := rfl
@[simp] theorem State.unspecified_r04 (s : State) : s.unspecified.r04 = s.r04 := rfl
@[simp] theorem State.unspecified_r05 (s : State) : s.unspecified.r05 = s.r05 := rfl
@[simp] theorem State.unspecified_r06 (s : State) : s.unspecified.r06 = s.r06 := rfl
@[simp] theorem State.unspecified_r07 (s : State) : s.unspecified.r07 = s.r07 := rfl
@[simp] theorem State.unspecified_r08 (s : State) : s.unspecified.r08 = s.r08 := rfl
@[simp] theorem State.unspecified_r09 (s : State) : s.unspecified.r09 = s.r09 := rfl
@[simp] theorem State.unspecified_volume (s : State) : s.unspecified.volume = s.volume := rfl
@[simp] theorem State.unspecified_pcmFormat (s : State) : s.unspecified.pcmFormat = s.pcmFormat := rfl
@[simp] theorem State.unspecified_bitLimit (s : State) : s.unspecified.bitLimit = s.bitLimit := rfl
@[simp] theorem State.unspecified_mem (s : State) : s.unspecified.mem = s.mem := rfl
@[simp] theorem State.unspecified_pcm (s : State) : s.unspecified.pcm = s.pcm := rfl
@[simp] theorem State.unspecified_port (s : State) : s.unspecified.port = s.port := rfl

@[simp] theorem State.refuse_phase (s : State) : s.refuse.phase = s.phase := rfl
@[simp] theorem State.refuse_done (s : State) : s.refuse.done = s.done := rfl
@[simp] theorem State.refuse_refused (s : State) : s.refuse.refused = true := rfl
@[simp] theorem State.refuse_faultCode (s : State) : s.refuse.faultCode = s.faultCode := rfl
@[simp] theorem State.refuse_faultInfo (s : State) : s.refuse.faultInfo = s.faultInfo := rfl
@[simp] theorem State.refuse_irqEn (s : State) : s.refuse.irqEn = s.irqEn := rfl
@[simp] theorem State.refuse_bitPos (s : State) : s.refuse.bitPos = s.bitPos := rfl
@[simp] theorem State.refuse_blocksDone (s : State) : s.refuse.blocksDone = s.blocksDone := rfl
@[simp] theorem State.refuse_chType (s : State) : s.refuse.chType = s.chType := rfl
@[simp] theorem State.refuse_channels (s : State) : s.refuse.channels = s.channels := rfl
@[simp] theorem State.refuse_blockSize (s : State) : s.refuse.blockSize = s.blockSize := rfl
@[simp] theorem State.refuse_r01 (s : State) : s.refuse.r01 = s.r01 := rfl
@[simp] theorem State.refuse_r02 (s : State) : s.refuse.r02 = s.r02 := rfl
@[simp] theorem State.refuse_r03 (s : State) : s.refuse.r03 = s.r03 := rfl
@[simp] theorem State.refuse_r04 (s : State) : s.refuse.r04 = s.r04 := rfl
@[simp] theorem State.refuse_r05 (s : State) : s.refuse.r05 = s.r05 := rfl
@[simp] theorem State.refuse_r06 (s : State) : s.refuse.r06 = s.r06 := rfl
@[simp] theorem State.refuse_r07 (s : State) : s.refuse.r07 = s.r07 := rfl
@[simp] theorem State.refuse_r08 (s : State) : s.refuse.r08 = s.r08 := rfl
@[simp] theorem State.refuse_r09 (s : State) : s.refuse.r09 = s.r09 := rfl
@[simp] theorem State.refuse_volume (s : State) : s.refuse.volume = s.volume := rfl
@[simp] theorem State.refuse_pcmFormat (s : State) : s.refuse.pcmFormat = s.pcmFormat := rfl
@[simp] theorem State.refuse_noise (s : State) : s.refuse.noise = s.noise := rfl
@[simp] theorem State.refuse_bitLimit (s : State) : s.refuse.bitLimit = s.bitLimit := rfl
@[simp] theorem State.refuse_chans (s : State) : s.refuse.chans = s.chans := rfl
@[simp] theorem State.refuse_mem (s : State) : s.refuse.mem = s.mem := rfl
@[simp] theorem State.refuse_pcm (s : State) : s.refuse.pcm = s.pcm := rfl
@[simp] theorem State.refuse_port (s : State) : s.refuse.port = s.port := rfl

@[simp] theorem State.returns_phase (s : State) (v : Word) : (s.returns v).phase = s.phase := rfl
@[simp] theorem State.returns_done (s : State) (v : Word) : (s.returns v).done = s.done := rfl
@[simp] theorem State.returns_refused (s : State) (v : Word) : (s.returns v).refused = s.refused := rfl
@[simp] theorem State.returns_faultCode (s : State) (v : Word) : (s.returns v).faultCode = s.faultCode := rfl
@[simp] theorem State.returns_faultInfo (s : State) (v : Word) : (s.returns v).faultInfo = s.faultInfo := rfl
@[simp] theorem State.returns_irqEn (s : State) (v : Word) : (s.returns v).irqEn = s.irqEn := rfl
@[simp] theorem State.returns_bitPos (s : State) (v : Word) : (s.returns v).bitPos = s.bitPos := rfl
@[simp] theorem State.returns_blocksDone (s : State) (v : Word) : (s.returns v).blocksDone = s.blocksDone := rfl
@[simp] theorem State.returns_chType (s : State) (v : Word) : (s.returns v).chType = s.chType := rfl
@[simp] theorem State.returns_channels (s : State) (v : Word) : (s.returns v).channels = s.channels := rfl
@[simp] theorem State.returns_blockSize (s : State) (v : Word) : (s.returns v).blockSize = s.blockSize := rfl
@[simp] theorem State.returns_r01 (s : State) (v : Word) : (s.returns v).r01 = s.r01 := rfl
@[simp] theorem State.returns_r02 (s : State) (v : Word) : (s.returns v).r02 = s.r02 := rfl
@[simp] theorem State.returns_r03 (s : State) (v : Word) : (s.returns v).r03 = s.r03 := rfl
@[simp] theorem State.returns_r04 (s : State) (v : Word) : (s.returns v).r04 = s.r04 := rfl
@[simp] theorem State.returns_r05 (s : State) (v : Word) : (s.returns v).r05 = s.r05 := rfl
@[simp] theorem State.returns_r06 (s : State) (v : Word) : (s.returns v).r06 = s.r06 := rfl
@[simp] theorem State.returns_r07 (s : State) (v : Word) : (s.returns v).r07 = s.r07 := rfl
@[simp] theorem State.returns_r08 (s : State) (v : Word) : (s.returns v).r08 = s.r08 := rfl
@[simp] theorem State.returns_r09 (s : State) (v : Word) : (s.returns v).r09 = s.r09 := rfl
@[simp] theorem State.returns_volume (s : State) (v : Word) : (s.returns v).volume = s.volume := rfl
@[simp] theorem State.returns_pcmFormat (s : State) (v : Word) : (s.returns v).pcmFormat = s.pcmFormat := rfl
@[simp] theorem State.returns_noise (s : State) (v : Word) : (s.returns v).noise = s.noise := rfl
@[simp] theorem State.returns_bitLimit (s : State) (v : Word) : (s.returns v).bitLimit = s.bitLimit := rfl
@[simp] theorem State.returns_chans (s : State) (v : Word) : (s.returns v).chans = s.chans := rfl
@[simp] theorem State.returns_mem (s : State) (v : Word) : (s.returns v).mem = s.mem := rfl
@[simp] theorem State.returns_pcm (s : State) (v : Word) : (s.returns v).pcm = s.pcm := rfl
@[simp] theorem State.returns_port (s : State) (v : Word) : (s.returns v).port = { s.port with readData := v } := rfl

@[simp] theorem State.advance_phase (s : State) (n : Nat) : (s.advance n).phase = s.phase := rfl
@[simp] theorem State.advance_done (s : State) (n : Nat) : (s.advance n).done = s.done := rfl
@[simp] theorem State.advance_refused (s : State) (n : Nat) : (s.advance n).refused = s.refused := rfl
@[simp] theorem State.advance_faultCode (s : State) (n : Nat) : (s.advance n).faultCode = s.faultCode := rfl
@[simp] theorem State.advance_faultInfo (s : State) (n : Nat) : (s.advance n).faultInfo = s.faultInfo := rfl
@[simp] theorem State.advance_irqEn (s : State) (n : Nat) : (s.advance n).irqEn = s.irqEn := rfl
@[simp] theorem State.advance_bitPos (s : State) (n : Nat) : (s.advance n).bitPos = s.bitPos + n := rfl
@[simp] theorem State.advance_blocksDone (s : State) (n : Nat) : (s.advance n).blocksDone = s.blocksDone := rfl
@[simp] theorem State.advance_chType (s : State) (n : Nat) : (s.advance n).chType = s.chType := rfl
@[simp] theorem State.advance_channels (s : State) (n : Nat) : (s.advance n).channels = s.channels := rfl
@[simp] theorem State.advance_blockSize (s : State) (n : Nat) : (s.advance n).blockSize = s.blockSize := rfl
@[simp] theorem State.advance_r01 (s : State) (n : Nat) : (s.advance n).r01 = s.r01 := rfl
@[simp] theorem State.advance_r02 (s : State) (n : Nat) : (s.advance n).r02 = s.r02 := rfl
@[simp] theorem State.advance_r03 (s : State) (n : Nat) : (s.advance n).r03 = s.r03 := rfl
@[simp] theorem State.advance_r04 (s : State) (n : Nat) : (s.advance n).r04 = s.r04 := rfl
@[simp] theorem State.advance_r05 (s : State) (n : Nat) : (s.advance n).r05 = s.r05 := rfl
@[simp] theorem State.advance_r06 (s : State) (n : Nat) : (s.advance n).r06 = s.r06 := rfl
@[simp] theorem State.advance_r07 (s : State) (n : Nat) : (s.advance n).r07 = s.r07 := rfl
@[simp] theorem State.advance_r08 (s : State) (n : Nat) : (s.advance n).r08 = s.r08 := rfl
@[simp] theorem State.advance_r09 (s : State) (n : Nat) : (s.advance n).r09 = s.r09 := rfl
@[simp] theorem State.advance_volume (s : State) (n : Nat) : (s.advance n).volume = s.volume := rfl
@[simp] theorem State.advance_pcmFormat (s : State) (n : Nat) : (s.advance n).pcmFormat = s.pcmFormat := rfl
@[simp] theorem State.advance_noise (s : State) (n : Nat) : (s.advance n).noise = s.noise := rfl
@[simp] theorem State.advance_bitLimit (s : State) (n : Nat) : (s.advance n).bitLimit = s.bitLimit := rfl
@[simp] theorem State.advance_chans (s : State) (n : Nat) : (s.advance n).chans = s.chans := rfl
@[simp] theorem State.advance_mem (s : State) (n : Nat) : (s.advance n).mem = s.mem := rfl
@[simp] theorem State.advance_pcm (s : State) (n : Nat) : (s.advance n).pcm = s.pcm := rfl
@[simp] theorem State.advance_port (s : State) (n : Nat) : (s.advance n).port = s.port := rfl

@[simp] theorem State.setChan_phase (s : State) (ch : Nat) (k : Channel) : (s.setChan ch k).phase = s.phase := rfl
@[simp] theorem State.setChan_done (s : State) (ch : Nat) (k : Channel) : (s.setChan ch k).done = s.done := rfl
@[simp] theorem State.setChan_refused (s : State) (ch : Nat) (k : Channel) : (s.setChan ch k).refused = s.refused := rfl
@[simp] theorem State.setChan_faultCode (s : State) (ch : Nat) (k : Channel) : (s.setChan ch k).faultCode = s.faultCode := rfl
@[simp] theorem State.setChan_faultInfo (s : State) (ch : Nat) (k : Channel) : (s.setChan ch k).faultInfo = s.faultInfo := rfl
@[simp] theorem State.setChan_irqEn (s : State) (ch : Nat) (k : Channel) : (s.setChan ch k).irqEn = s.irqEn := rfl
@[simp] theorem State.setChan_bitPos (s : State) (ch : Nat) (k : Channel) : (s.setChan ch k).bitPos = s.bitPos := rfl
@[simp] theorem State.setChan_blocksDone (s : State) (ch : Nat) (k : Channel) : (s.setChan ch k).blocksDone = s.blocksDone := rfl
@[simp] theorem State.setChan_chType (s : State) (ch : Nat) (k : Channel) : (s.setChan ch k).chType = s.chType := rfl
@[simp] theorem State.setChan_channels (s : State) (ch : Nat) (k : Channel) : (s.setChan ch k).channels = s.channels := rfl
@[simp] theorem State.setChan_blockSize (s : State) (ch : Nat) (k : Channel) : (s.setChan ch k).blockSize = s.blockSize := rfl
@[simp] theorem State.setChan_r01 (s : State) (ch : Nat) (k : Channel) : (s.setChan ch k).r01 = s.r01 := rfl
@[simp] theorem State.setChan_r02 (s : State) (ch : Nat) (k : Channel) : (s.setChan ch k).r02 = s.r02 := rfl
@[simp] theorem State.setChan_r03 (s : State) (ch : Nat) (k : Channel) : (s.setChan ch k).r03 = s.r03 := rfl
@[simp] theorem State.setChan_r04 (s : State) (ch : Nat) (k : Channel) : (s.setChan ch k).r04 = s.r04 := rfl
@[simp] theorem State.setChan_r05 (s : State) (ch : Nat) (k : Channel) : (s.setChan ch k).r05 = s.r05 := rfl
@[simp] theorem State.setChan_r06 (s : State) (ch : Nat) (k : Channel) : (s.setChan ch k).r06 = s.r06 := rfl
@[simp] theorem State.setChan_r07 (s : State) (ch : Nat) (k : Channel) : (s.setChan ch k).r07 = s.r07 := rfl
@[simp] theorem State.setChan_r08 (s : State) (ch : Nat) (k : Channel) : (s.setChan ch k).r08 = s.r08 := rfl
@[simp] theorem State.setChan_r09 (s : State) (ch : Nat) (k : Channel) : (s.setChan ch k).r09 = s.r09 := rfl
@[simp] theorem State.setChan_volume (s : State) (ch : Nat) (k : Channel) : (s.setChan ch k).volume = s.volume := rfl
@[simp] theorem State.setChan_pcmFormat (s : State) (ch : Nat) (k : Channel) : (s.setChan ch k).pcmFormat = s.pcmFormat := rfl
@[simp] theorem State.setChan_noise (s : State) (ch : Nat) (k : Channel) : (s.setChan ch k).noise = s.noise := rfl
@[simp] theorem State.setChan_bitLimit (s : State) (ch : Nat) (k : Channel) : (s.setChan ch k).bitLimit = s.bitLimit := rfl
@[simp] theorem State.setChan_chans (s : State) (ch : Nat) (k : Channel) : (s.setChan ch k).chans = s.chans.setIfInBounds ch k := rfl
@[simp] theorem State.setChan_mem (s : State) (ch : Nat) (k : Channel) : (s.setChan ch k).mem = s.mem := rfl
@[simp] theorem State.setChan_pcm (s : State) (ch : Nat) (k : Channel) : (s.setChan ch k).pcm = s.pcm := rfl
@[simp] theorem State.setChan_port (s : State) (ch : Nat) (k : Channel) : (s.setChan ch k).port = s.port := rfl

@[simp] theorem State.modChan_phase (s : State) (ch : Nat) (f : Channel → Channel) : (s.modChan ch f).phase = s.phase := rfl
@[simp] theorem State.modChan_done (s : State) (ch : Nat) (f : Channel → Channel) : (s.modChan ch f).done = s.done := rfl
@[simp] theorem State.modChan_refused (s : State) (ch : Nat) (f : Channel → Channel) : (s.modChan ch f).refused = s.refused := rfl
@[simp] theorem State.modChan_faultCode (s : State) (ch : Nat) (f : Channel → Channel) : (s.modChan ch f).faultCode = s.faultCode := rfl
@[simp] theorem State.modChan_faultInfo (s : State) (ch : Nat) (f : Channel → Channel) : (s.modChan ch f).faultInfo = s.faultInfo := rfl
@[simp] theorem State.modChan_irqEn (s : State) (ch : Nat) (f : Channel → Channel) : (s.modChan ch f).irqEn = s.irqEn := rfl
@[simp] theorem State.modChan_bitPos (s : State) (ch : Nat) (f : Channel → Channel) : (s.modChan ch f).bitPos = s.bitPos := rfl
@[simp] theorem State.modChan_blocksDone (s : State) (ch : Nat) (f : Channel → Channel) : (s.modChan ch f).blocksDone = s.blocksDone := rfl
@[simp] theorem State.modChan_chType (s : State) (ch : Nat) (f : Channel → Channel) : (s.modChan ch f).chType = s.chType := rfl
@[simp] theorem State.modChan_channels (s : State) (ch : Nat) (f : Channel → Channel) : (s.modChan ch f).channels = s.channels := rfl
@[simp] theorem State.modChan_blockSize (s : State) (ch : Nat) (f : Channel → Channel) : (s.modChan ch f).blockSize = s.blockSize := rfl
@[simp] theorem State.modChan_r01 (s : State) (ch : Nat) (f : Channel → Channel) : (s.modChan ch f).r01 = s.r01 := rfl
@[simp] theorem State.modChan_r02 (s : State) (ch : Nat) (f : Channel → Channel) : (s.modChan ch f).r02 = s.r02 := rfl
@[simp] theorem State.modChan_r03 (s : State) (ch : Nat) (f : Channel → Channel) : (s.modChan ch f).r03 = s.r03 := rfl
@[simp] theorem State.modChan_r04 (s : State) (ch : Nat) (f : Channel → Channel) : (s.modChan ch f).r04 = s.r04 := rfl
@[simp] theorem State.modChan_r05 (s : State) (ch : Nat) (f : Channel → Channel) : (s.modChan ch f).r05 = s.r05 := rfl
@[simp] theorem State.modChan_r06 (s : State) (ch : Nat) (f : Channel → Channel) : (s.modChan ch f).r06 = s.r06 := rfl
@[simp] theorem State.modChan_r07 (s : State) (ch : Nat) (f : Channel → Channel) : (s.modChan ch f).r07 = s.r07 := rfl
@[simp] theorem State.modChan_r08 (s : State) (ch : Nat) (f : Channel → Channel) : (s.modChan ch f).r08 = s.r08 := rfl
@[simp] theorem State.modChan_r09 (s : State) (ch : Nat) (f : Channel → Channel) : (s.modChan ch f).r09 = s.r09 := rfl
@[simp] theorem State.modChan_volume (s : State) (ch : Nat) (f : Channel → Channel) : (s.modChan ch f).volume = s.volume := rfl
@[simp] theorem State.modChan_pcmFormat (s : State) (ch : Nat) (f : Channel → Channel) : (s.modChan ch f).pcmFormat = s.pcmFormat := rfl
@[simp] theorem State.modChan_noise (s : State) (ch : Nat) (f : Channel → Channel) : (s.modChan ch f).noise = s.noise := rfl
@[simp] theorem State.modChan_bitLimit (s : State) (ch : Nat) (f : Channel → Channel) : (s.modChan ch f).bitLimit = s.bitLimit := rfl
@[simp] theorem State.modChan_chans (s : State) (ch : Nat) (f : Channel → Channel) : (s.modChan ch f).chans = s.chans.setIfInBounds ch (f (s.chan ch)) := rfl
@[simp] theorem State.modChan_mem (s : State) (ch : Nat) (f : Channel → Channel) : (s.modChan ch f).mem = s.mem := rfl
@[simp] theorem State.modChan_pcm (s : State) (ch : Nat) (f : Channel → Channel) : (s.modChan ch f).pcm = s.pcm := rfl
@[simp] theorem State.modChan_port (s : State) (ch : Nat) (f : Channel → Channel) : (s.modChan ch f).port = s.port := rfl

@[simp] theorem State.storeByte_phase (s : State) (a : Nat) (v : Byte) : (s.storeByte a v).phase = s.phase := rfl
@[simp] theorem State.storeByte_done (s : State) (a : Nat) (v : Byte) : (s.storeByte a v).done = s.done := rfl
@[simp] theorem State.storeByte_refused (s : State) (a : Nat) (v : Byte) : (s.storeByte a v).refused = s.refused := rfl
@[simp] theorem State.storeByte_faultCode (s : State) (a : Nat) (v : Byte) : (s.storeByte a v).faultCode = s.faultCode := rfl
@[simp] theorem State.storeByte_faultInfo (s : State) (a : Nat) (v : Byte) : (s.storeByte a v).faultInfo = s.faultInfo := rfl
@[simp] theorem State.storeByte_irqEn (s : State) (a : Nat) (v : Byte) : (s.storeByte a v).irqEn = s.irqEn := rfl
@[simp] theorem State.storeByte_bitPos (s : State) (a : Nat) (v : Byte) : (s.storeByte a v).bitPos = s.bitPos := rfl
@[simp] theorem State.storeByte_blocksDone (s : State) (a : Nat) (v : Byte) : (s.storeByte a v).blocksDone = s.blocksDone := rfl
@[simp] theorem State.storeByte_chType (s : State) (a : Nat) (v : Byte) : (s.storeByte a v).chType = s.chType := rfl
@[simp] theorem State.storeByte_channels (s : State) (a : Nat) (v : Byte) : (s.storeByte a v).channels = s.channels := rfl
@[simp] theorem State.storeByte_blockSize (s : State) (a : Nat) (v : Byte) : (s.storeByte a v).blockSize = s.blockSize := rfl
@[simp] theorem State.storeByte_r01 (s : State) (a : Nat) (v : Byte) : (s.storeByte a v).r01 = s.r01 := rfl
@[simp] theorem State.storeByte_r02 (s : State) (a : Nat) (v : Byte) : (s.storeByte a v).r02 = s.r02 := rfl
@[simp] theorem State.storeByte_r03 (s : State) (a : Nat) (v : Byte) : (s.storeByte a v).r03 = s.r03 := rfl
@[simp] theorem State.storeByte_r04 (s : State) (a : Nat) (v : Byte) : (s.storeByte a v).r04 = s.r04 := rfl
@[simp] theorem State.storeByte_r05 (s : State) (a : Nat) (v : Byte) : (s.storeByte a v).r05 = s.r05 := rfl
@[simp] theorem State.storeByte_r06 (s : State) (a : Nat) (v : Byte) : (s.storeByte a v).r06 = s.r06 := rfl
@[simp] theorem State.storeByte_r07 (s : State) (a : Nat) (v : Byte) : (s.storeByte a v).r07 = s.r07 := rfl
@[simp] theorem State.storeByte_r08 (s : State) (a : Nat) (v : Byte) : (s.storeByte a v).r08 = s.r08 := rfl
@[simp] theorem State.storeByte_r09 (s : State) (a : Nat) (v : Byte) : (s.storeByte a v).r09 = s.r09 := rfl
@[simp] theorem State.storeByte_volume (s : State) (a : Nat) (v : Byte) : (s.storeByte a v).volume = s.volume := rfl
@[simp] theorem State.storeByte_pcmFormat (s : State) (a : Nat) (v : Byte) : (s.storeByte a v).pcmFormat = s.pcmFormat := rfl
@[simp] theorem State.storeByte_noise (s : State) (a : Nat) (v : Byte) : (s.storeByte a v).noise = s.noise := rfl
@[simp] theorem State.storeByte_bitLimit (s : State) (a : Nat) (v : Byte) : (s.storeByte a v).bitLimit = s.bitLimit := rfl
@[simp] theorem State.storeByte_chans (s : State) (a : Nat) (v : Byte) : (s.storeByte a v).chans = s.chans := rfl
@[simp] theorem State.storeByte_mem (s : State) (a : Nat) (v : Byte) : (s.storeByte a v).mem = memWrite s.mem a v := rfl
@[simp] theorem State.storeByte_pcm (s : State) (a : Nat) (v : Byte) : (s.storeByte a v).pcm = s.pcm := rfl
@[simp] theorem State.storeByte_port (s : State) (a : Nat) (v : Byte) : (s.storeByte a v).port = s.port := rfl

@[simp] theorem State.withInbox_phase (s : State) (l : List Event) : (s.withInbox l).phase = s.phase := rfl
@[simp] theorem State.withInbox_done (s : State) (l : List Event) : (s.withInbox l).done = s.done := rfl
@[simp] theorem State.withInbox_refused (s : State) (l : List Event) : (s.withInbox l).refused = s.refused := rfl
@[simp] theorem State.withInbox_faultCode (s : State) (l : List Event) : (s.withInbox l).faultCode = s.faultCode := rfl
@[simp] theorem State.withInbox_faultInfo (s : State) (l : List Event) : (s.withInbox l).faultInfo = s.faultInfo := rfl
@[simp] theorem State.withInbox_irqEn (s : State) (l : List Event) : (s.withInbox l).irqEn = s.irqEn := rfl
@[simp] theorem State.withInbox_bitPos (s : State) (l : List Event) : (s.withInbox l).bitPos = s.bitPos := rfl
@[simp] theorem State.withInbox_blocksDone (s : State) (l : List Event) : (s.withInbox l).blocksDone = s.blocksDone := rfl
@[simp] theorem State.withInbox_chType (s : State) (l : List Event) : (s.withInbox l).chType = s.chType := rfl
@[simp] theorem State.withInbox_channels (s : State) (l : List Event) : (s.withInbox l).channels = s.channels := rfl
@[simp] theorem State.withInbox_blockSize (s : State) (l : List Event) : (s.withInbox l).blockSize = s.blockSize := rfl
@[simp] theorem State.withInbox_r01 (s : State) (l : List Event) : (s.withInbox l).r01 = s.r01 := rfl
@[simp] theorem State.withInbox_r02 (s : State) (l : List Event) : (s.withInbox l).r02 = s.r02 := rfl
@[simp] theorem State.withInbox_r03 (s : State) (l : List Event) : (s.withInbox l).r03 = s.r03 := rfl
@[simp] theorem State.withInbox_r04 (s : State) (l : List Event) : (s.withInbox l).r04 = s.r04 := rfl
@[simp] theorem State.withInbox_r05 (s : State) (l : List Event) : (s.withInbox l).r05 = s.r05 := rfl
@[simp] theorem State.withInbox_r06 (s : State) (l : List Event) : (s.withInbox l).r06 = s.r06 := rfl
@[simp] theorem State.withInbox_r07 (s : State) (l : List Event) : (s.withInbox l).r07 = s.r07 := rfl
@[simp] theorem State.withInbox_r08 (s : State) (l : List Event) : (s.withInbox l).r08 = s.r08 := rfl
@[simp] theorem State.withInbox_r09 (s : State) (l : List Event) : (s.withInbox l).r09 = s.r09 := rfl
@[simp] theorem State.withInbox_volume (s : State) (l : List Event) : (s.withInbox l).volume = s.volume := rfl
@[simp] theorem State.withInbox_pcmFormat (s : State) (l : List Event) : (s.withInbox l).pcmFormat = s.pcmFormat := rfl
@[simp] theorem State.withInbox_noise (s : State) (l : List Event) : (s.withInbox l).noise = s.noise := rfl
@[simp] theorem State.withInbox_bitLimit (s : State) (l : List Event) : (s.withInbox l).bitLimit = s.bitLimit := rfl
@[simp] theorem State.withInbox_chans (s : State) (l : List Event) : (s.withInbox l).chans = s.chans := rfl
@[simp] theorem State.withInbox_mem (s : State) (l : List Event) : (s.withInbox l).mem = s.mem := rfl
@[simp] theorem State.withInbox_pcm (s : State) (l : List Event) : (s.withInbox l).pcm = s.pcm := rfl
@[simp] theorem State.withInbox_port (s : State) (l : List Event) : (s.withInbox l).port = { s.port with inbox := l } := rfl

end Sys2Proof.Machine
end

