-- ==== Sys2Proof/Laws/Ops.lean ====
section
/-! SUPPORT. What each shared operation can do: channels, loops that end at a fault, the bit reader, the forms of
a host operation, and the operations of the block fields and code words. -/

namespace Sys2Proof.Machine

/-! ### Channels -/

theorem State.chan_setChan (s : State) (ch c : Nat) (k : Channel) :
    (s.setChan ch k).chan c = if ch = c ∧ ch < 16 then k else s.chan c := by
  unfold State.chan State.setChan
  simp only [Vector.getElem?_setIfInBounds]
  by_cases h : ch = c
  · subst h
    by_cases h2 : ch < 16 <;> simp [h2]
  · simp [h]

theorem State.chan_modChan (s : State) (ch c : Nat) (f : Channel → Channel) :
    (s.modChan ch f).chan c = if ch = c ∧ ch < 16 then f (s.chan c) else s.chan c := by
  unfold State.modChan
  rw [State.chan_setChan]
  by_cases h : ch = c
  · subst h; rfl
  · simp [h]

theorem State.chan_modChan_self (s : State) {ch : Nat} (f : Channel → Channel) (h : ch < 16) :
    (s.modChan ch f).chan ch = f (s.chan ch) := by
  simp [State.chan_modChan, h]

theorem State.chan_modChan_ne (s : State) {ch c : Nat} (f : Channel → Channel) (h : c ≠ ch) :
    (s.modChan ch f).chan c = s.chan c := by
  rw [State.chan_modChan, if_neg (fun h' => h h'.1.symm)]

/-- A channel beyond 15 reads as the reset channel. -/
theorem State.chan_outside (s : State) {ch : Nat} (h : 16 ≤ ch) : s.chan ch = Channel.reset := by
  simp [State.chan, Nat.not_lt.mpr h]

/-- States with the same channels read the same. -/
theorem State.chan_congr {s t : State} (h : t.chans = s.chans) (c : Nat) : t.chan c = s.chan c := by
  simp [State.chan, h]

/-- States that read the same channel by channel have the same channels. -/
theorem State.chans_ext {s t : State} (h : ∀ c, c < 16 → t.chan c = s.chan c) : t.chans = s.chans := by
  apply Vector.ext
  intro i hi
  simpa [State.chan, hi] using h i hi

theorem State.chan_unspecified (s : State) (ch : Nat) :
    s.unspecified.chan ch = if ch < 16 then (s.chan ch).unspecified ch else Channel.reset := by
  unfold State.unspecified State.chan
  by_cases h : ch < 16 <;> simp [h]

/-! ### Loops -/

theorem State.andThen_cases (s : State) (f : State → State) :
    (s.phase = .faulted ∧ s.andThen f = s) ∨ (s.phase ≠ .faulted ∧ s.andThen f = f s) := by
  unfold State.andThen
  split
  · exact .inl ⟨‹_›, rfl⟩
  · exact .inr ⟨‹_›, rfl⟩

/-- What one pass keeps, and what holds before, holds after the loop. -/
theorem forEach_keeps {α : Type} {P : State → Prop} {l : List α} {f : α → State → State}
    (hf : ∀ a ∈ l, ∀ s, s.phase ≠ .faulted → P s → P (f a s)) :
    ∀ s, P s → P (forEach l f s) := by
  unfold forEach
  induction l with
  | nil => exact fun s h => h
  | cons a l ih =>
    intro s h
    rw [List.foldl_cons]
    refine ih (fun b hb => hf b (List.mem_cons_of_mem a hb)) _ ?_
    rcases s.andThen_cases (f a) with ⟨_, e⟩ | ⟨hp, e⟩ <;> rw [e]
    · exact h
    · exact hf a List.mem_cons_self s hp h

/-- The same for a loop that no fault ends. -/
theorem foldl_keeps {α β : Type} {P : β → Prop} {l : List α} {f : β → α → β}
    (hf : ∀ a ∈ l, ∀ s, P s → P (f s a)) : ∀ s, P s → P (l.foldl f s) := by
  induction l with
  | nil => exact fun s h => h
  | cons a l ih =>
    intro s h
    rw [List.foldl_cons]
    exact ih (fun b hb => hf b (List.mem_cons_of_mem a hb)) _ (hf a List.mem_cons_self s h)

@[simp] theorem forEach_nil {α : Type} (f : α → State → State) (s : State) : forEach [] f s = s := rfl

theorem forEach_cons {α : Type} (a : α) (l : List α) (f : α → State → State) (s : State) :
    forEach (a :: l) f s = forEach l f (s.andThen (f a)) := rfl

/-- A faulted state goes through a loop unchanged. -/
theorem forEach_faulted {α : Type} (l : List α) (f : α → State → State) {s : State}
    (h : s.phase = .faulted) : forEach l f s = s := by
  induction l with
  | nil => rfl
  | cons a l ih => rw [forEach_cons, State.andThen, if_pos h, ih]

/-! ### The bit reader -/

theorem State.peekAt_beyond (s : State) {p n : Nat} (h : s.bitLimit < p + n) : s.peekAt p n = 0 := by
  simp [State.peekAt, h]

/-- A field of `n` bits, at most 17, is below 2^n. -/
theorem State.peekAt_lt (s : State) (p n : Nat) (hn : n ≤ 17) : s.peekAt p n < 2 ^ n := by
  unfold State.peekAt
  split
  · exact Nat.two_pow_pos n
  · split
    · exact Nat.two_pow_pos n
    · have ho : p % 8 < 8 := Nat.mod_lt _ (by decide)
      simp only
      generalize p % 8 = o at ho
      generalize (s.blockByte (p / 8)).toNat * 65536 + (s.blockByte (p / 8 + 1)).toNat * 256
        + (s.blockByte (p / 8 + 2)).toNat = v
      have h1 : v &&& (0xFFFFFF >>> o) < 2 ^ (24 - o) := by
        refine lt_of_le_of_lt Nat.and_le_right ?_
        rw [Nat.shiftRight_eq_div_pow]
        interval_cases o <;> decide
      rw [Nat.shiftRight_eq_div_pow]
      apply Nat.div_lt_of_lt_mul
      rw [← Nat.pow_add]
      have e : 24 - o - n + n = 24 - o := by omega
      rw [e]
      exact h1

theorem State.peek_lt (s : State) (n : Nat) (hn : n ≤ 17) : s.peek n < 2 ^ n := s.peekAt_lt _ n hn

theorem State.peek_eq_reader (s : State) (n : Nat) : s.peek n = s.reader 0 n := rfl

/-- A field depends on the block bytes it covers, BITLIMIT and its place only. -/
theorem State.peekAt_congr {s t : State} (hl : t.bitLimit = s.bitLimit)
    (hm : ∀ i, t.blockByte i = s.blockByte i) (p n : Nat) : t.peekAt p n = s.peekAt p n := by
  simp [State.peekAt, hl, hm]

/-! ### The forms of a host operation -/

/-- Everything a host read can do. -/
theorem hostRead_cases (addr : Word) (ok always : Bool) (v : Word) (s : State) :
    (s.phase = .faulted ∧ ok = true ∧ hostRead addr ok always v s = s.returns v)
      ∨ (s.phase = .faulted ∧ ok = false ∧ hostRead addr ok always v s = s.refuse.returns 0)
      ∨ (s.phase ≠ .faulted ∧ ok = false
          ∧ hostRead addr ok always v s = (s.raise (.badAccess addr)).returns 0)
      ∨ (s.phase = .busy ∧ ok = true ∧ always = false
          ∧ hostRead addr ok always v s = (s.raise (.hostBusy addr)).returns 0)
      ∨ (s.phase ≠ .faulted ∧ ok = true ∧ (s.phase = .busy → always = true)
          ∧ hostRead addr ok always v s = s.returns v) := by
  unfold hostRead
  cases hp : s.phase <;> cases ok <;> cases always <;> simp

/-- Everything a host write other than of CMD can do. -/
theorem hostWrite_cases (addr : Word) (ok locked : Bool) (store : State → State) (s : State) :
    (s.phase = .faulted ∧ hostWrite addr ok locked store s = s.refuse)
      ∨ (s.phase ≠ .faulted ∧ ok = false
          ∧ hostWrite addr ok locked store s = s.raise (.badAccess addr))
      ∨ (s.phase = .busy ∧ ok = true ∧ hostWrite addr ok locked store s = s.raise (.hostBusy addr))
      ∨ (s.phase = .configured ∧ ok = true ∧ locked = true
          ∧ hostWrite addr ok locked store s = s.raise (.configLocked addr))
      ∨ ((s.phase = .unconfigured ∨ s.phase = .configured ∧ locked = false) ∧ ok = true
          ∧ hostWrite addr ok locked store s = store s) := by
  unfold hostWrite
  cases hp : s.phase <;> cases ok <;> cases locked <;> simp

/-- Everything a command word other than RESET can do. -/
theorem hostCommand_cases (act : State → State) (s : State) :
    (s.phase = .faulted ∧ hostCommand act s = s.refuse)
      ∨ (s.phase = .busy ∧ hostCommand act s = s.raise (.hostBusy 4))
      ∨ ((s.phase = .unconfigured ∨ s.phase = .configured) ∧ hostCommand act s = act s) := by
  unfold hostCommand
  cases hp : s.phase <;> simp

/-! ### What one channel's operation leaves alone -/

/-- Changing one channel changes nothing else of the state. -/
theorem State.modChan_frame (s : State) (ch : Nat) (f : Channel → Channel) :
    { s.modChan ch f with chans := s.chans } = s := rfl

/-- Two changes of one channel are one change. -/
theorem State.modChan_modChan (s : State) {ch : Nat} (f g : Channel → Channel) (h : ch < 16) :
    (s.modChan ch f).modChan ch g = s.modChan ch (g ∘ f) := by
  have : ((s.modChan ch f).modChan ch g).chans = (s.modChan ch (g ∘ f)).chans := by
    apply State.chans_ext
    intro c _
    by_cases hc : c = ch
    · subst hc; simp [State.chan_modChan_self, h]
    · simp [State.chan_modChan_ne, hc]
  simp only [State.modChan, State.setChan] at this ⊢
  rw [this]

end Sys2Proof.Machine
end

