-- ==== Sys2Proof/Laws/Fields.lean ====
section
/-! SUPPORT. What the operations of the block fields and code words store, in the terms of the claims. -/

namespace Sys2Proof.Machine

@[simp] theorem State.advance_zero (s : State) : s.advance 0 = s := rfl

theorem storesSf_modChan (s : State) {ch : Nat} (n : Nat) (g : Vector (BitVec 6) 128 → Vector (BitVec 6) 128)
    (h : ch < 16) :
    StoresSf s ((s.advance n).modChan ch fun k => { k with sf := g k.sf }) ch n
      (entry (g (s.chan ch).sf)) := by
  refine ⟨rfl, rfl, fun c hc => State.chan_modChan_ne _ _ hc, ?_, fun j _ => ?_⟩ <;>
    rw [State.chan_modChan_self _ _ h] <;> rfl

theorem storesInt_modChan (s : State) {ch : Nat} (n : Nat) (g : Vector (BitVec 4) 8 → Vector (BitVec 4) 8)
    (h : ch < 16) :
    StoresInt s ((s.advance n).modChan ch fun k => { k with int := g k.int }) ch n
      (entry (g (s.chan ch).int)) := by
  refine ⟨rfl, rfl, fun c hc => State.chan_modChan_ne _ _ hc, ?_, fun j _ => ?_⟩ <;>
    rw [State.chan_modChan_self _ _ h] <;> rfl

theorem storesSpec_modChan (s : State) {ch : Nat} (n : Nat) (g : Channel → Vector F32 128) (h : ch < 16) :
    StoresSpec s ((s.advance n).modChan ch fun k => { k with spec := g k }) ch n
      (entry (g (s.chan ch))) := by
  refine ⟨rfl, rfl, fun c hc => State.chan_modChan_ne _ _ hc, ?_, fun j _ => ?_⟩ <;>
    rw [State.chan_modChan_self _ _ h] <;> rfl

/-- Two descriptions of the same entries. -/
theorem StoresSf.congr {s t : State} {ch n : Nat} {f g : Nat → BitVec 6} (h : StoresSf s t ch n f)
    (hfg : ∀ j, j < 128 → f j = g j) : StoresSf s t ch n g :=
  ⟨h.1, h.2.1, h.2.2.1, h.2.2.2.1, fun j hj => (h.2.2.2.2 j hj).trans (hfg j hj)⟩

theorem StoresInt.congr {s t : State} {ch n : Nat} {f g : Nat → BitVec 4} (h : StoresInt s t ch n f)
    (hfg : ∀ j, j < 8 → f j = g j) : StoresInt s t ch n g :=
  ⟨h.1, h.2.1, h.2.2.1, h.2.2.2.1, fun j hj => (h.2.2.2.2 j hj).trans (hfg j hj)⟩

theorem StoresSpec.congr {s t : State} {ch n : Nat} {f g : Nat → F32} (h : StoresSpec s t ch n f)
    (hfg : ∀ j, j < 128 → f j = g j) : StoresSpec s t ch n g :=
  ⟨h.1, h.2.1, h.2.2.1, h.2.2.2.1, fun j hj => (h.2.2.2.2 j hj).trans (hfg j hj)⟩

theorem opSfZero_stores (s : State) {ch : Nat} (h : ch < 16) :
    StoresSf s (opSfZero ch s) ch 0 fun _ => 0 := by
  have := storesSf_modChan s 0 (fun v => fillRange v 0 128 fun _ => 0) h
  refine this.congr fun j hj => ?_
  rw [entry_fillRange, if_pos (by omega)]

theorem opSfRaw_stores (s : State) {ch : Nat} (vs : List (BitVec 6)) (h : ch < 16) :
    StoresSf s (opSfRaw ch vs s) ch (6 * vs.length) fun j =>
      if j < vs.length then vs.getD j 0 else entry (s.chan ch).sf j := by
  refine (storesSf_modChan s (6 * vs.length) (fun v => writeRun v 0 vs) h).congr fun j hj => ?_
  rw [entry_writeRun]
  by_cases h2 : j < vs.length <;> simp [h2, hj]

theorem opSfFirst_stores (s : State) {ch : Nat} (v : BitVec 6) (h : ch < 16) :
    StoresSf s (opSfFirst ch v s) ch 6 fun j => if j = 0 then v else entry (s.chan ch).sf j := by
  refine (storesSf_modChan s 6 (fun u => u.setIfInBounds 0 v) h).congr fun j hj => ?_
  rw [entry_setIfInBounds]
  by_cases h2 : j = 0 <;> simp [h2, hj, eq_comm]

theorem opSfEscape_stores (s : State) {ch : Nat} (i m : Nat) (v : BitVec 6) (h : ch < 16) :
    StoresSf s (opSfEscape ch i m v s) ch (m + 6) fun j =>
      if j = i then v else entry (s.chan ch).sf j := by
  refine (storesSf_modChan s (m + 6) (fun u => u.setIfInBounds i v) h).congr fun j hj => ?_
  rw [entry_setIfInBounds]
  by_cases h2 : j = i
  · subst h2; simp [hj]
  · simp [h2, Ne.symm h2]

/-- A delta code either stores the previous scale factor plus d - half, or raises ScaleFactorRange. -/
theorem opSfDelta_cases (s : State) {ch : Nat} (i m d : Nat) (h : ch < 16) :
    let v : Int := (entry (s.chan ch).sf (i - 1)).toNat + d - ((2 ^ m - 1) / 2 : Nat)
    (0 ≤ v ∧ v ≤ 63 ∧ StoresSf s (opSfDelta ch i m d s) ch m fun j =>
        if j = i then BitVec.ofInt 6 v else entry (s.chan ch).sf j)
      ∨ ((v < 0 ∨ 63 < v)
        ∧ opSfDelta ch i m d s = (s.advance m).raise (.scaleFactorRange ch i)) := by
  intro v
  by_cases hv : v < 0 ∨ 63 < v
  · refine .inr ⟨hv, ?_⟩
    show (if v < 0 ∨ 63 < v then _ else _) = _
    rw [if_pos hv]
  · refine .inl ⟨by omega, by omega, ?_⟩
    have e : opSfDelta ch i m d s = (s.advance m).modChan ch fun k =>
        { k with sf := k.sf.setIfInBounds i (BitVec.ofInt 6 v) } := by
      show (if v < 0 ∨ 63 < v then _ else _) = _
      rw [if_neg hv]
    rw [e]
    refine (storesSf_modChan s m (fun u => u.setIfInBounds i (BitVec.ofInt 6 v)) h).congr fun j hj => ?_
    rw [entry_setIfInBounds]
    by_cases h2 : j = i
    · subst h2; simp [hj]
    · simp [h2, Ne.symm h2]

theorem opIntensitySet_stores (s : State) {ch : Nat} (vs : List (BitVec 4)) (h : ch < 16) :
    StoresInt s (opIntensitySet ch vs s) ch (4 * vs.length) fun j =>
      if j < vs.length then vs.getD j 0 else entry (s.chan ch).int j := by
  refine (storesInt_modChan s (4 * vs.length) (fun v => writeRun v 0 vs) h).congr fun j hj => ?_
  rw [entry_writeRun]
  by_cases h2 : j < vs.length <;> simp [h2, hj]

theorem opIntensityAll15_stores (s : State) {ch : Nat} (h : ch < 16) :
    StoresInt s (opIntensityAll15 ch s) ch 0 fun _ => 15 := by
  refine (storesInt_modChan s 0 (fun v => fillRange v 0 8 fun _ => 15) h).congr fun j hj => ?_
  rw [entry_fillRange, if_pos (by omega)]

theorem opHfrScale_stores (s : State) {ch : Nat} (vs : List (BitVec 6)) (h : ch < 16) :
    StoresSf s (opHfrScale ch vs s) ch (6 * vs.length) fun j =>
      if s.r06.toNat + s.r07.toNat ≤ j ∧ j < s.r06.toNat + s.r07.toNat + vs.length then
        vs.getD (j - (s.r06.toNat + s.r07.toNat)) 0
      else entry (s.chan ch).sf j := by
  refine (storesSf_modChan s (6 * vs.length)
    (fun v => writeRun v (s.r06.toNat + s.r07.toNat) vs) h).congr fun j hj => ?_
  rw [entry_writeRun]
  simp [hj]

theorem opCode_stores (s : State) {ch : Nat} (i len : Nat) (q : Int) (h : ch < 16) :
    StoresSpec s (opCode ch i len q s) ch len fun j =>
      if j = i then fmul (entry (s.chan ch).base j) (fOfInt q) else entry (s.chan ch).spec j := by
  refine (storesSpec_modChan s len
    (fun k => k.spec.setIfInBounds i (fmul (entry k.base i) (fOfInt q))) h).congr fun j hj => ?_
  rw [entry_setIfInBounds]
  by_cases h2 : j = i
  · subst h2; simp [hj]
  · simp [h2, Ne.symm h2]

/-- The zero fill at the end of DEQUANT. -/
theorem zeroFill_stores (s : State) {ch : Nat} (h : ch < 16) (hc : (s.chan ch).count ≤ 128) :
    StoresSpec s (zeroFill ch s) ch 0 fun j =>
      if j < (s.chan ch).count then entry (s.chan ch).spec j else 0 := by
  refine (storesSpec_modChan s 0
    (fun k => fillRange k.spec k.count (128 - k.count) fun _ => 0) h).congr fun j hj => ?_
  rw [entry_fillRange]
  by_cases h2 : j < (s.chan ch).count
  · rw [if_neg (by omega), if_pos h2]
  · rw [if_pos (by omega), if_neg h2]

end Sys2Proof.Machine
end

