-- ==== Sys2Proof/Laws/PerInstr.lean ====
section
/-! SUPPORT. Statements about every instruction as syntax, one lemma per constructor. -/

namespace Sys2Proof.Laws

@[simp] theorem msbBits_length (n v : Nat) : (msbBits n v).length = n := by simp [msbBits]

theorem flatMap_msbBits_length {w : Nat} (n : Nat) (l : List (BitVec w)) :
    (l.flatMap fun v => msbBits n v.toNat).length = n * l.length := by
  induction l with
  | nil => rfl
  | cons x xs ih => rw [List.flatMap_cons, List.length_append, ih, msbBits_length, List.length_cons]; ring

/-- Where an instruction is encoded in bits of the block, it consumes all of them, or none: a look-ahead and the
checksum stay (spec/30_encoding.md R82, R88). -/
def EncodingLength.Statement (i : Instr) : Prop :=
  ∀ c bits, encode i = .stream c bits → bitLength i = bits.length ∨ bitLength i = 0

/-- The statement of an instruction whose encoding is the bits given. -/
theorem encodingLength_of_stream {i : Instr} {c : Context} {l : List Bool} (h : encode i = .stream c l)
    (hl : bitLength i = l.length ∨ bitLength i = 0) : EncodingLength.Statement i := by
  intro c' bits e
  rw [h] at e
  obtain ⟨-, rfl⟩ := Source.stream.inj e
  exact hl

theorem EncodingLength.nop : EncodingLength.Statement (.nop) :=
  nofun

theorem EncodingLength.reset : EncodingLength.Statement (.reset) :=
  nofun

theorem EncodingLength.configure : EncodingLength.Statement (.configure) :=
  nofun

theorem EncodingLength.decodeBlock : EncodingLength.Statement (.decodeBlock) :=
  nofun

theorem EncodingLength.ack : EncodingLength.Statement (.ack) :=
  nofun

theorem EncodingLength.reservedCmd (word : Word) : EncodingLength.Statement (.reservedCmd word) :=
  nofun

theorem EncodingLength.regRead (r : Reg) : EncodingLength.Statement (.regRead r) :=
  nofun

theorem EncodingLength.regWrite (r : Reg) (value : Word) : EncodingLength.Statement (.regWrite r value) :=
  nofun

theorem EncodingLength.athRead (i : Idx) : EncodingLength.Statement (.athRead i) :=
  nofun

theorem EncodingLength.athWrite (i : Idx) (value : Byte) : EncodingLength.Statement (.athWrite i value) :=
  nofun

theorem EncodingLength.cipherRead (i : Fin 256) : EncodingLength.Statement (.cipherRead i) :=
  nofun

theorem EncodingLength.cipherWrite (i : Fin 256) (value : Byte) : EncodingLength.Statement (.cipherWrite i value) :=
  nofun

theorem EncodingLength.blockbufRead (i : Fin 65535) : EncodingLength.Statement (.blockbufRead i) :=
  nofun

theorem EncodingLength.blockbufWrite (i : Fin 65535) (value : Byte) : EncodingLength.Statement (.blockbufWrite i value) :=
  nofun

theorem EncodingLength.pcmbufRead (w : Fin 16384) : EncodingLength.Statement (.pcmbufRead w) :=
  nofun

theorem EncodingLength.badAccess (a : Access) : EncodingLength.Statement (.badAccess a) :=
  nofun

theorem EncodingLength.descramble : EncodingLength.Statement (.descramble) :=
  nofun

theorem EncodingLength.blockStart : EncodingLength.Statement (.blockStart) :=
  nofun

theorem EncodingLength.stage1 (ch : Chan) : EncodingLength.Statement (.stage1 ch) :=
  nofun

theorem EncodingLength.dequant (ch : Chan) (sf : Sub) : EncodingLength.Statement (.dequant ch sf) :=
  nofun

theorem EncodingLength.hfr (ch : Chan) : EncodingLength.Statement (.hfr ch) :=
  nofun

theorem EncodingLength.intensity (ch : Chan) (sf : Sub) : EncodingLength.Statement (.intensity ch sf) :=
  nofun

theorem EncodingLength.synth (ch : Chan) (sf : Sub) : EncodingLength.Statement (.synth ch sf) :=
  nofun

theorem EncodingLength.pcmOut : EncodingLength.Statement (.pcmOut) :=
  nofun

theorem EncodingLength.sync (value : BitVec 16) : EncodingLength.Statement (.sync value) :=
  encodingLength_of_stream rfl (.inl rfl)

theorem EncodingLength.noise (hi : BitVec 9) (lo : BitVec 7) : EncodingLength.Statement (.noise hi lo) :=
  encodingLength_of_stream rfl (.inl rfl)

theorem EncodingLength.sfmode (ch : Chan) (mode : BitVec 3) : EncodingLength.Statement (.sfmode ch mode) :=
  encodingLength_of_stream rfl (.inl rfl)

theorem EncodingLength.sfZero (ch : Chan) : EncodingLength.Statement (.sfZero ch) :=
  encodingLength_of_stream rfl (.inl rfl)

theorem EncodingLength.sfRaw (ch : Chan) (values : List (BitVec 6)) : EncodingLength.Statement (.sfRaw ch values) :=
  encodingLength_of_stream rfl (.inl (flatMap_msbBits_length 6 values).symm)

theorem EncodingLength.sfFirst (ch : Chan) (value : BitVec 6) : EncodingLength.Statement (.sfFirst ch value) :=
  encodingLength_of_stream rfl (.inl rfl)

theorem EncodingLength.sfDelta (ch : Chan) (i : Idx) (mode : BitVec 3) (d : BitVec 5) : EncodingLength.Statement (.sfDelta ch i mode d) :=
  encodingLength_of_stream rfl (.inl (msbBits_length _ _).symm)

theorem EncodingLength.sfEscape (ch : Chan) (i : Idx) (mode : BitVec 3) (value : BitVec 6) : EncodingLength.Statement (.sfEscape ch i mode value) :=
  encodingLength_of_stream rfl (.inl (by simp [bitLength]))

theorem EncodingLength.intensitySet (ch : Chan) (values : List (BitVec 4)) : EncodingLength.Statement (.intensitySet ch values) :=
  encodingLength_of_stream rfl (.inl (flatMap_msbBits_length 4 values).symm)

theorem EncodingLength.intensityAll15 (ch : Chan) : EncodingLength.Statement (.intensityAll15 ch) :=
  encodingLength_of_stream rfl (.inr rfl)

theorem EncodingLength.hfrScale (ch : Chan) (values : List (BitVec 6)) : EncodingLength.Statement (.hfrScale ch values) :=
  encodingLength_of_stream rfl (.inl (flatMap_msbBits_length 6 values).symm)

theorem EncodingLength.blockChecksum (value : BitVec 16) : EncodingLength.Statement (.blockChecksum value) :=
  encodingLength_of_stream rfl (.inr rfl)

theorem EncodingLength.codeR0 (slot : Slot) : EncodingLength.Statement (.codeR0 slot) :=
  encodingLength_of_stream rfl (.inl rfl)

theorem EncodingLength.codeR1Zero (slot : Slot) : EncodingLength.Statement (.codeR1Zero slot) :=
  encodingLength_of_stream rfl (.inl rfl)

theorem EncodingLength.codeR1P1 (slot : Slot) : EncodingLength.Statement (.codeR1P1 slot) :=
  encodingLength_of_stream rfl (.inl rfl)

theorem EncodingLength.codeR1M1 (slot : Slot) : EncodingLength.Statement (.codeR1M1 slot) :=
  encodingLength_of_stream rfl (.inl rfl)

theorem EncodingLength.codeR2Zero (slot : Slot) : EncodingLength.Statement (.codeR2Zero slot) :=
  encodingLength_of_stream rfl (.inl rfl)

theorem EncodingLength.codeR2P1 (slot : Slot) : EncodingLength.Statement (.codeR2P1 slot) :=
  encodingLength_of_stream rfl (.inl rfl)

theorem EncodingLength.codeR2M1 (slot : Slot) : EncodingLength.Statement (.codeR2M1 slot) :=
  encodingLength_of_stream rfl (.inl rfl)

theorem EncodingLength.codeR2P2 (slot : Slot) : EncodingLength.Statement (.codeR2P2 slot) :=
  encodingLength_of_stream rfl (.inl rfl)

theorem EncodingLength.codeR2M2 (slot : Slot) : EncodingLength.Statement (.codeR2M2 slot) :=
  encodingLength_of_stream rfl (.inl rfl)

theorem EncodingLength.codeR3Zero (slot : Slot) : EncodingLength.Statement (.codeR3Zero slot) :=
  encodingLength_of_stream rfl (.inl rfl)

theorem EncodingLength.codeR3P1 (slot : Slot) : EncodingLength.Statement (.codeR3P1 slot) :=
  encodingLength_of_stream rfl (.inl rfl)

theorem EncodingLength.codeR3M1 (slot : Slot) : EncodingLength.Statement (.codeR3M1 slot) :=
  encodingLength_of_stream rfl (.inl rfl)

theorem EncodingLength.codeR3P2 (slot : Slot) : EncodingLength.Statement (.codeR3P2 slot) :=
  encodingLength_of_stream rfl (.inl rfl)

theorem EncodingLength.codeR3M2 (slot : Slot) : EncodingLength.Statement (.codeR3M2 slot) :=
  encodingLength_of_stream rfl (.inl rfl)

theorem EncodingLength.codeR3P3 (slot : Slot) : EncodingLength.Statement (.codeR3P3 slot) :=
  encodingLength_of_stream rfl (.inl rfl)

theorem EncodingLength.codeR3M3 (slot : Slot) : EncodingLength.Statement (.codeR3M3 slot) :=
  encodingLength_of_stream rfl (.inl rfl)

theorem EncodingLength.codeR4Zero (slot : Slot) : EncodingLength.Statement (.codeR4Zero slot) :=
  encodingLength_of_stream rfl (.inl rfl)

theorem EncodingLength.codeR4P1 (slot : Slot) : EncodingLength.Statement (.codeR4P1 slot) :=
  encodingLength_of_stream rfl (.inl rfl)

theorem EncodingLength.codeR4M1 (slot : Slot) : EncodingLength.Statement (.codeR4M1 slot) :=
  encodingLength_of_stream rfl (.inl rfl)

theorem EncodingLength.codeR4P2 (slot : Slot) : EncodingLength.Statement (.codeR4P2 slot) :=
  encodingLength_of_stream rfl (.inl rfl)

theorem EncodingLength.codeR4M2 (slot : Slot) : EncodingLength.Statement (.codeR4M2 slot) :=
  encodingLength_of_stream rfl (.inl rfl)

theorem EncodingLength.codeR4P3 (slot : Slot) : EncodingLength.Statement (.codeR4P3 slot) :=
  encodingLength_of_stream rfl (.inl rfl)

theorem EncodingLength.codeR4M3 (slot : Slot) : EncodingLength.Statement (.codeR4M3 slot) :=
  encodingLength_of_stream rfl (.inl rfl)

theorem EncodingLength.codeR4P4 (slot : Slot) : EncodingLength.Statement (.codeR4P4 slot) :=
  encodingLength_of_stream rfl (.inl rfl)

theorem EncodingLength.codeR4M4 (slot : Slot) : EncodingLength.Statement (.codeR4M4 slot) :=
  encodingLength_of_stream rfl (.inl rfl)

theorem EncodingLength.codeR5Zero (slot : Slot) : EncodingLength.Statement (.codeR5Zero slot) :=
  encodingLength_of_stream rfl (.inl rfl)

theorem EncodingLength.codeR5P1 (slot : Slot) : EncodingLength.Statement (.codeR5P1 slot) :=
  encodingLength_of_stream rfl (.inl rfl)

theorem EncodingLength.codeR5M1 (slot : Slot) : EncodingLength.Statement (.codeR5M1 slot) :=
  encodingLength_of_stream rfl (.inl rfl)

theorem EncodingLength.codeR5P2 (slot : Slot) : EncodingLength.Statement (.codeR5P2 slot) :=
  encodingLength_of_stream rfl (.inl rfl)

theorem EncodingLength.codeR5M2 (slot : Slot) : EncodingLength.Statement (.codeR5M2 slot) :=
  encodingLength_of_stream rfl (.inl rfl)

theorem EncodingLength.codeR5P3 (slot : Slot) : EncodingLength.Statement (.codeR5P3 slot) :=
  encodingLength_of_stream rfl (.inl rfl)

theorem EncodingLength.codeR5M3 (slot : Slot) : EncodingLength.Statement (.codeR5M3 slot) :=
  encodingLength_of_stream rfl (.inl rfl)

theorem EncodingLength.codeR5P4 (slot : Slot) : EncodingLength.Statement (.codeR5P4 slot) :=
  encodingLength_of_stream rfl (.inl rfl)

theorem EncodingLength.codeR5M4 (slot : Slot) : EncodingLength.Statement (.codeR5M4 slot) :=
  encodingLength_of_stream rfl (.inl rfl)

theorem EncodingLength.codeR5P5 (slot : Slot) : EncodingLength.Statement (.codeR5P5 slot) :=
  encodingLength_of_stream rfl (.inl rfl)

theorem EncodingLength.codeR5M5 (slot : Slot) : EncodingLength.Statement (.codeR5M5 slot) :=
  encodingLength_of_stream rfl (.inl rfl)

theorem EncodingLength.codeR6Zero (slot : Slot) : EncodingLength.Statement (.codeR6Zero slot) :=
  encodingLength_of_stream rfl (.inl rfl)

theorem EncodingLength.codeR6P1 (slot : Slot) : EncodingLength.Statement (.codeR6P1 slot) :=
  encodingLength_of_stream rfl (.inl rfl)

theorem EncodingLength.codeR6M1 (slot : Slot) : EncodingLength.Statement (.codeR6M1 slot) :=
  encodingLength_of_stream rfl (.inl rfl)

theorem EncodingLength.codeR6P2 (slot : Slot) : EncodingLength.Statement (.codeR6P2 slot) :=
  encodingLength_of_stream rfl (.inl rfl)

theorem EncodingLength.codeR6M2 (slot : Slot) : EncodingLength.Statement (.codeR6M2 slot) :=
  encodingLength_of_stream rfl (.inl rfl)

theorem EncodingLength.codeR6P3 (slot : Slot) : EncodingLength.Statement (.codeR6P3 slot) :=
  encodingLength_of_stream rfl (.inl rfl)

theorem EncodingLength.codeR6M3 (slot : Slot) : EncodingLength.Statement (.codeR6M3 slot) :=
  encodingLength_of_stream rfl (.inl rfl)

theorem EncodingLength.codeR6P4 (slot : Slot) : EncodingLength.Statement (.codeR6P4 slot) :=
  encodingLength_of_stream rfl (.inl rfl)

theorem EncodingLength.codeR6M4 (slot : Slot) : EncodingLength.Statement (.codeR6M4 slot) :=
  encodingLength_of_stream rfl (.inl rfl)

theorem EncodingLength.codeR6P5 (slot : Slot) : EncodingLength.Statement (.codeR6P5 slot) :=
  encodingLength_of_stream rfl (.inl rfl)

theorem EncodingLength.codeR6M5 (slot : Slot) : EncodingLength.Statement (.codeR6M5 slot) :=
  encodingLength_of_stream rfl (.inl rfl)

theorem EncodingLength.codeR6P6 (slot : Slot) : EncodingLength.Statement (.codeR6P6 slot) :=
  encodingLength_of_stream rfl (.inl rfl)

theorem EncodingLength.codeR6M6 (slot : Slot) : EncodingLength.Statement (.codeR6M6 slot) :=
  encodingLength_of_stream rfl (.inl rfl)

theorem EncodingLength.codeR7Zero (slot : Slot) : EncodingLength.Statement (.codeR7Zero slot) :=
  encodingLength_of_stream rfl (.inl rfl)

theorem EncodingLength.codeR7P1 (slot : Slot) : EncodingLength.Statement (.codeR7P1 slot) :=
  encodingLength_of_stream rfl (.inl rfl)

theorem EncodingLength.codeR7M1 (slot : Slot) : EncodingLength.Statement (.codeR7M1 slot) :=
  encodingLength_of_stream rfl (.inl rfl)

theorem EncodingLength.codeR7P2 (slot : Slot) : EncodingLength.Statement (.codeR7P2 slot) :=
  encodingLength_of_stream rfl (.inl rfl)

theorem EncodingLength.codeR7M2 (slot : Slot) : EncodingLength.Statement (.codeR7M2 slot) :=
  encodingLength_of_stream rfl (.inl rfl)

theorem EncodingLength.codeR7P3 (slot : Slot) : EncodingLength.Statement (.codeR7P3 slot) :=
  encodingLength_of_stream rfl (.inl rfl)

theorem EncodingLength.codeR7M3 (slot : Slot) : EncodingLength.Statement (.codeR7M3 slot) :=
  encodingLength_of_stream rfl (.inl rfl)

theorem EncodingLength.codeR7P4 (slot : Slot) : EncodingLength.Statement (.codeR7P4 slot) :=
  encodingLength_of_stream rfl (.inl rfl)

theorem EncodingLength.codeR7M4 (slot : Slot) : EncodingLength.Statement (.codeR7M4 slot) :=
  encodingLength_of_stream rfl (.inl rfl)

theorem EncodingLength.codeR7P5 (slot : Slot) : EncodingLength.Statement (.codeR7P5 slot) :=
  encodingLength_of_stream rfl (.inl rfl)

theorem EncodingLength.codeR7M5 (slot : Slot) : EncodingLength.Statement (.codeR7M5 slot) :=
  encodingLength_of_stream rfl (.inl rfl)

theorem EncodingLength.codeR7P6 (slot : Slot) : EncodingLength.Statement (.codeR7P6 slot) :=
  encodingLength_of_stream rfl (.inl rfl)

theorem EncodingLength.codeR7M6 (slot : Slot) : EncodingLength.Statement (.codeR7M6 slot) :=
  encodingLength_of_stream rfl (.inl rfl)

theorem EncodingLength.codeR7P7 (slot : Slot) : EncodingLength.Statement (.codeR7P7 slot) :=
  encodingLength_of_stream rfl (.inl rfl)

theorem EncodingLength.codeR7M7 (slot : Slot) : EncodingLength.Statement (.codeR7M7 slot) :=
  encodingLength_of_stream rfl (.inl rfl)

theorem EncodingLength.codeR8Zero (slot : Slot) : EncodingLength.Statement (.codeR8Zero slot) :=
  encodingLength_of_stream rfl (.inl rfl)

theorem EncodingLength.codeR8Mag (slot : Slot) (mag : BitVec 4) (sign : Bool) : EncodingLength.Statement (.codeR8Mag slot mag sign) :=
  encodingLength_of_stream rfl (.inl rfl)

theorem EncodingLength.codeR9Zero (slot : Slot) : EncodingLength.Statement (.codeR9Zero slot) :=
  encodingLength_of_stream rfl (.inl rfl)

theorem EncodingLength.codeR9Mag (slot : Slot) (mag : BitVec 5) (sign : Bool) : EncodingLength.Statement (.codeR9Mag slot mag sign) :=
  encodingLength_of_stream rfl (.inl rfl)

theorem EncodingLength.codeR10Zero (slot : Slot) : EncodingLength.Statement (.codeR10Zero slot) :=
  encodingLength_of_stream rfl (.inl rfl)

theorem EncodingLength.codeR10Mag (slot : Slot) (mag : BitVec 6) (sign : Bool) : EncodingLength.Statement (.codeR10Mag slot mag sign) :=
  encodingLength_of_stream rfl (.inl rfl)

theorem EncodingLength.codeR11Zero (slot : Slot) : EncodingLength.Statement (.codeR11Zero slot) :=
  encodingLength_of_stream rfl (.inl rfl)

theorem EncodingLength.codeR11Mag (slot : Slot) (mag : BitVec 7) (sign : Bool) : EncodingLength.Statement (.codeR11Mag slot mag sign) :=
  encodingLength_of_stream rfl (.inl rfl)

theorem EncodingLength.codeR12Zero (slot : Slot) : EncodingLength.Statement (.codeR12Zero slot) :=
  encodingLength_of_stream rfl (.inl rfl)

theorem EncodingLength.codeR12Mag (slot : Slot) (mag : BitVec 8) (sign : Bool) : EncodingLength.Statement (.codeR12Mag slot mag sign) :=
  encodingLength_of_stream rfl (.inl rfl)

theorem EncodingLength.codeR13Zero (slot : Slot) : EncodingLength.Statement (.codeR13Zero slot) :=
  encodingLength_of_stream rfl (.inl rfl)

theorem EncodingLength.codeR13Mag (slot : Slot) (mag : BitVec 9) (sign : Bool) : EncodingLength.Statement (.codeR13Mag slot mag sign) :=
  encodingLength_of_stream rfl (.inl rfl)

theorem EncodingLength.codeR14Zero (slot : Slot) : EncodingLength.Statement (.codeR14Zero slot) :=
  encodingLength_of_stream rfl (.inl rfl)

theorem EncodingLength.codeR14Mag (slot : Slot) (mag : BitVec 10) (sign : Bool) : EncodingLength.Statement (.codeR14Mag slot mag sign) :=
  encodingLength_of_stream rfl (.inl rfl)

theorem EncodingLength.codeR15Zero (slot : Slot) : EncodingLength.Statement (.codeR15Zero slot) :=
  encodingLength_of_stream rfl (.inl rfl)

theorem EncodingLength.codeR15Mag (slot : Slot) (mag : BitVec 11) (sign : Bool) : EncodingLength.Statement (.codeR15Mag slot mag sign) :=
  encodingLength_of_stream rfl (.inl rfl)

end Sys2Proof.Laws
end

