-- ==== Sys2Proof/Laws/Stages.lean ====
section
/-! SUPPORT. What every operation of the decoder step may touch. `StageStep` says it once for all of them but
DESCRAMBLE and PCM_OUT. -/

namespace Sys2Proof.Machine

/-- Of the state only BITPOS, BITLIMIT, NOISE, the datapath arrays and the fault record may have changed; the
channel types and counts have not; and either no fault was recorded or a decode fault (code 7..10) was. -/
def StageStep (s t : State) : Prop :=
  { t with
      bitPos := s.bitPos, bitLimit := s.bitLimit, noise := s.noise, chans := s.chans,
      phase := s.phase, faultCode := s.faultCode, faultInfo := s.faultInfo } = s
    ∧ (∀ c, (t.chan c).type = (s.chan c).type ∧ (t.chan c).count = (s.chan c).count)
    ∧ ((t.phase = s.phase ∧ t.faultCode = s.faultCode ∧ t.faultInfo = s.faultInfo)
      ∨ (t.phase = .faulted ∧ 7 ≤ t.faultCode.toNat ∧ t.faultCode.toNat ≤ 10))

theorem StageStep.refl (s : State) : StageStep s s :=
  ⟨rfl, fun _ => ⟨rfl, rfl⟩, .inl ⟨rfl, rfl, rfl⟩⟩

theorem StageStep.trans {s t u : State} (h : StageStep s t) (h' : StageStep t u) : StageStep s u := by
  obtain ⟨a, b, c⟩ := h
  obtain ⟨a', b', c'⟩ := h'
  refine ⟨?_, fun ch => ⟨(b' ch).1.trans (b ch).1, (b' ch).2.trans (b ch).2⟩, ?_⟩
  · rw [← a, ← a']
  · rcases c' with ⟨p, q, r⟩ | ⟨p, q⟩
    · rcases c with ⟨p0, q0, r0⟩ | ⟨p0, q0⟩
      · exact .inl ⟨p.trans p0, q.trans q0, r.trans r0⟩
      · exact .inr ⟨p.trans p0, by rw [q]; exact q0⟩
    · exact .inr ⟨p, q⟩

theorem StageStep.andThen {s t : State} {f : State → State} (h : StageStep s t)
    (hf : ∀ u, StageStep u (f u)) : StageStep s (t.andThen f) := by
  rcases t.andThen_cases f with ⟨_, e⟩ | ⟨_, e⟩ <;> rw [e]
  · exact h
  · exact h.trans (hf t)

theorem StageStep.forEach {α : Type} {l : List α} {f : α → State → State}
    (hf : ∀ a ∈ l, ∀ u, StageStep u (f a u)) (s : State) : StageStep s (forEach l f s) :=
  forEach_keeps (P := StageStep s) (fun a ha t _ h => h.trans (hf a ha t)) s (.refl s)

theorem StageStep.foldl {α : Type} {l : List α} {f : State → α → State}
    (hf : ∀ a ∈ l, ∀ u, StageStep u (f u a)) (s : State) : StageStep s (l.foldl f s) :=
  foldl_keeps (P := StageStep s) (fun a ha t h => h.trans (hf a ha t)) s (.refl s)

/-- Changing datapath arrays of one channel. -/
theorem StageStep.modChan (s : State) (ch : Nat) {f : Channel → Channel}
    (hf : ∀ k, (f k).type = k.type ∧ (f k).count = k.count) : StageStep s (s.modChan ch f) := by
  refine ⟨rfl, fun c => ?_, .inl ⟨rfl, rfl, rfl⟩⟩
  rw [State.chan_modChan]
  split
  · exact hf _
  · exact ⟨rfl, rfl⟩

theorem StageStep.advance (s : State) (n : Nat) : StageStep s (s.advance n) :=
  ⟨rfl, fun _ => ⟨rfl, rfl⟩, .inl ⟨rfl, rfl, rfl⟩⟩

/-- Recording a decode fault. -/
theorem StageStep.raise (s : State) {c : Cause} (h : 7 ≤ c.code.toNat ∧ c.code.toNat ≤ 10) :
    StageStep s (s.raise c) :=
  ⟨rfl, fun _ => ⟨rfl, rfl⟩, .inr ⟨rfl, h⟩⟩

theorem stageStep_opSync (v : BitVec 16) (s : State) : StageStep s (opSync v s) := by
  unfold opSync
  simp only
  split
  · exact .advance s 16
  · exact (StageStep.advance s 16).trans (.raise _ ⟨by simp [Cause.code], by simp [Cause.code]⟩)

theorem stageStep_opNoise (hi : BitVec 9) (lo : BitVec 7) (s : State) : StageStep s (opNoise hi lo s) :=
  ⟨rfl, fun _ => ⟨rfl, rfl⟩, .inl ⟨rfl, rfl, rfl⟩⟩

theorem stageStep_opSfZero (ch : Nat) (s : State) : StageStep s (opSfZero ch s) :=
  .modChan s ch fun _ => ⟨rfl, rfl⟩

theorem stageStep_opSfRaw (ch : Nat) (vs : List (BitVec 6)) (s : State) : StageStep s (opSfRaw ch vs s) :=
  (StageStep.advance s _).trans (.modChan _ ch fun _ => ⟨rfl, rfl⟩)

theorem stageStep_opSfFirst (ch : Nat) (v : BitVec 6) (s : State) : StageStep s (opSfFirst ch v s) :=
  (StageStep.advance s _).trans (.modChan _ ch fun _ => ⟨rfl, rfl⟩)

theorem stageStep_opSfEscape (ch i m : Nat) (v : BitVec 6) (s : State) :
    StageStep s (opSfEscape ch i m v s) :=
  (StageStep.advance s _).trans (.modChan _ ch fun _ => ⟨rfl, rfl⟩)

theorem stageStep_opSfDelta (ch i m d : Nat) (s : State) : StageStep s (opSfDelta ch i m d s) := by
  unfold opSfDelta
  simp only
  split
  · exact (StageStep.advance s m).trans (.raise _ ⟨by simp [Cause.code], by simp [Cause.code]⟩)
  · exact (StageStep.advance s m).trans (.modChan _ ch fun _ => ⟨rfl, rfl⟩)

theorem stageStep_opIntensitySet (ch : Nat) (vs : List (BitVec 4)) (s : State) :
    StageStep s (opIntensitySet ch vs s) :=
  (StageStep.advance s _).trans (.modChan _ ch fun _ => ⟨rfl, rfl⟩)

theorem stageStep_opIntensityAll15 (ch : Nat) (s : State) : StageStep s (opIntensityAll15 ch s) :=
  .modChan s ch fun _ => ⟨rfl, rfl⟩

theorem stageStep_opHfrScale (ch : Nat) (vs : List (BitVec 6)) (s : State) :
    StageStep s (opHfrScale ch vs s) :=
  (StageStep.advance s _).trans (.modChan _ ch fun _ => ⟨rfl, rfl⟩)

theorem stageStep_opCode (ch i len : Nat) (q : Int) (s : State) : StageStep s (opCode ch i len q s) :=
  (StageStep.advance s _).trans (.modChan _ ch fun _ => ⟨rfl, rfl⟩)

theorem stageStep_syncField (s : State) : StageStep s (syncField s) := stageStep_opSync _ s

theorem stageStep_noiseField (s : State) : StageStep s (noiseField s) := stageStep_opNoise _ _ s

theorem stageStep_scaleFactors (ch : Nat) (s : State) : StageStep s (scaleFactors ch s) := by
  unfold scaleFactors
  simp only
  have h3 : StageStep s (opSfmode s) := .advance s 3
  split
  · exact h3.trans (stageStep_opSfZero ch _)
  · split
    · exact h3.trans (stageStep_opSfRaw ch _ _)
    · refine h3.trans ((stageStep_opSfFirst ch _ _).trans (.forEach (fun i _ u => ?_) _))
      unfold deltaStep
      split
      · exact stageStep_opSfEscape ..
      · exact stageStep_opSfDelta ..

theorem stageStep_extension (ch : Nat) (s : State) : StageStep s (extension ch s) := by
  unfold extension intensityField
  split
  · split
    · exact stageStep_opIntensitySet ..
    · exact stageStep_opIntensityAll15 ..
  · exact stageStep_opHfrScale ..

theorem stageStep_derive (ch : Nat) (s : State) : StageStep s (derive ch s) :=
  .modChan s ch fun _ => ⟨rfl, rfl⟩

theorem stageStep_stage1 (ch : Nat) (s : State) : StageStep s (stage1 ch s) :=
  ((stageStep_scaleFactors ch s).andThen (stageStep_extension ch)).andThen (stageStep_derive ch)

theorem stageStep_dequant (ch : Nat) (s : State) : StageStep s (dequant ch s) :=
  (StageStep.foldl (fun _ _ u => stageStep_opCode _ _ _ _ u) s).trans (.modChan _ ch fun _ => ⟨rfl, rfl⟩)

theorem stageStep_hfrGroup (ch : Nat) (scale : BitVec 6) (j : Nat) :
    ∀ k l s, StageStep s (hfrGroup ch scale j (k, l, s)).2.2 := by
  induction j with
  | zero => exact fun _ _ s => .refl s
  | succ j ih =>
    intro k l s
    rw [hfrGroup]
    split
    · exact .refl s
    · split
      · exact .raise s ⟨by simp [Cause.code], by simp [Cause.code]⟩
      · refine StageStep.trans ?_ (ih _ _ _)
        exact .modChan s ch fun _ => ⟨rfl, rfl⟩

theorem stageStep_hfrLoop (ch : Nat) (s : State) : StageStep s (hfrLoop ch s) := by
  unfold hfrLoop
  refine foldl_keeps (P := fun x : Nat × Int × State => StageStep s x.2.2) (fun g _ x h => ?_) _ (.refl s)
  split
  · exact h
  · exact h.trans (stageStep_hfrGroup ..)

theorem stageStep_hfr (ch : Nat) (s : State) : StageStep s (hfr ch s) := by
  unfold hfr
  split
  · exact (stageStep_hfrLoop ch s).andThen fun u => .modChan u ch fun _ => ⟨rfl, rfl⟩
  · exact .refl s

theorem stageStep_intensityStep (ch : Nat) (r1 r2 : F32) (i : Nat) (s : State) :
    StageStep s (intensityStep ch r1 r2 i s) := by
  have h := StageStep.modChan s (ch + 1)
    (f := fun k => { k with spec := k.spec.setIfInBounds i (fmul (entry (s.chan ch).spec i) r2) })
    fun _ => ⟨rfl, rfl⟩
  exact h.trans (.modChan _ ch
    (f := fun k => { k with spec := k.spec.setIfInBounds i (fmul (entry (s.chan ch).spec i) r1) })
    fun _ => ⟨rfl, rfl⟩)

theorem stageStep_intensity (p : Config.Params) (ch sf : Nat) (s : State) :
    StageStep s (intensity p ch sf s) := by
  unfold intensity
  simp only
  split
  · exact .foldl (fun i _ u => stageStep_intensityStep ch _ _ i u) s
  · exact .refl s

/-- SYNTH changes five arrays of the channel. -/
theorem synthChannel_shape (p : Config.Params) (sf : Nat) (k : Channel) : ∃ a b c d e,
    synthChannel p sf k = { k with spec := a, wav1 := b, wav2 := c, wav3 := d, wave := e } :=
  ⟨_, _, _, _, _, rfl⟩

theorem stageStep_synth (p : Config.Params) (ch sf : Nat) (s : State) : StageStep s (synth p ch sf s) := by
  unfold synth
  refine .modChan s ch fun k => ?_
  obtain ⟨a, b, c, d, e, h⟩ := synthChannel_shape p sf k
  rw [h]
  exact ⟨rfl, rfl⟩

theorem stageStep_subframe (p : Config.Params) (sf : Nat) (s : State) :
    StageStep s (subframe p sf s) := by
  unfold subframe
  exact ((StageStep.forEach (fun ch _ => stageStep_dequant ch) s).trans
    (.forEach (fun ch _ => stageStep_hfr ch) _)).trans
    ((StageStep.forEach (fun ch _ => stageStep_intensity p ch sf) _).trans
      (.forEach (fun ch _ => stageStep_synth p ch sf) _))

/-- BLOCK_START and everything from SYNC to the last SYNTH. -/
theorem stageStep_blockStart (s : State) : StageStep s (blockStart s) :=
  ⟨rfl, fun _ => ⟨rfl, rfl⟩, .inl ⟨rfl, rfl, rfl⟩⟩

/-- PCM_OUT either stores words in PCMBUF and changes nothing else, or records NonFiniteSample. -/
theorem pcmOut_cases (s : State) :
    (∃ p, pcmRun s s.channels.toNat (sampleOrder s.channels.toNat) s.pcm = .ok p
        ∧ pcmOut s = { s with pcm := p })
      ∨ ∃ c, pcmRun s s.channels.toNat (sampleOrder s.channels.toNat) s.pcm = .error c
        ∧ pcmOut s = s.raise c := by
  unfold pcmOut
  simp only
  split
  · exact .inl ⟨_, ‹_›, rfl⟩
  · exact .inr ⟨_, ‹_›, rfl⟩

/-- The fault of PCM_OUT is NonFiniteSample. -/
theorem pcmRun_error {s : State} {c : Nat} {l : List (Nat × Nat × Nat)} {p : Cells 32} {f : Cause}
    (h : pcmRun s c l p = .error f) : ∃ ch sf j, f = .nonFiniteSample ch sf j := by
  induction l generalizing p with
  | nil => simp [pcmRun] at h
  | cons x l ih =>
    obtain ⟨sf, j, ch⟩ := x
    rw [pcmRun] at h
    split at h
    · exact ⟨ch, sf, j, by simpa using h.symm⟩
    · exact ih h

/-- DESCRAMBLE changes the memory only, and keeps its canonical form. -/
theorem descramble_frame (s : State) : { descramble s with mem := s.mem } = s := by
  unfold descramble
  refine foldl_keeps (P := fun t : State => { t with mem := s.mem } = s) (fun i _ t h => ?_) s rfl
  exact h

end Sys2Proof.Machine
end

