-- ==== Sys2Proof/Tests/Slice0.lean ====
section
/-! SUPPORT. The model's own tests: ill-formed terms refused, written-out words decoded, single steps with the
values of spec/95_test_vectors.md, and for each statement of Certificates/Slice0 with hypotheses a theorem
`witness_<Name>` that meets them. -/

namespace Sys2Proof.Tests

open Sys2Proof.Machine

-- One theorem after another: many kernel evaluations at once need more threads than the build may start.
set_option Elab.async false

/-! ### Ill-formed terms -/

theorem test_wf_access : (Instr.reservedCmd 4).wf = false ∧ (Instr.regRead .cmd).wf = false
    ∧ (Instr.regWrite .id 0).wf = false ∧ (Instr.regWrite .r09 0).wf = false
    ∧ (Instr.badAccess ⟨0, 32, .read⟩).wf = false
    ∧ (Instr.badAccess ⟨4, 32, .write 0⟩).wf = false := by decide

theorem test_wf_sequence : (Instr.intensity 15 0).wf = false := by decide

theorem test_wf_fields : (Instr.sfRaw 0 (List.replicate 129 0)).wf = false
    ∧ (Instr.hfrScale 0 (List.replicate 129 0)).wf = false
    ∧ (Instr.intensitySet 0 (List.replicate 7 0)).wf = false
    ∧ (Instr.intensitySet 0 (15 :: List.replicate 7 0)).wf = false := by decide +kernel

theorem test_wf_deltas : (Instr.sfDelta 0 0 1 0).wf = false ∧ (Instr.sfDelta 0 1 0 0).wf = false
    ∧ (Instr.sfDelta 0 1 6 0).wf = false ∧ (Instr.sfDelta 0 1 2 3).wf = false
    ∧ (Instr.sfEscape 0 0 1 0).wf = false ∧ (Instr.sfEscape 0 1 0 0).wf = false
    ∧ (Instr.sfEscape 0 1 6 0).wf = false := by decide

theorem test_wf_magnitudes : (Instr.codeR8Mag ⟨0, 0⟩ 0 true).wf = false
    ∧ (Instr.codeR9Mag ⟨0, 0⟩ 0 true).wf = false ∧ (Instr.codeR10Mag ⟨0, 0⟩ 0 true).wf = false
    ∧ (Instr.codeR11Mag ⟨0, 0⟩ 0 true).wf = false ∧ (Instr.codeR12Mag ⟨0, 0⟩ 0 true).wf = false
    ∧ (Instr.codeR13Mag ⟨0, 0⟩ 0 true).wf = false ∧ (Instr.codeR14Mag ⟨0, 0⟩ 0 true).wf = false
    ∧ (Instr.codeR15Mag ⟨0, 0⟩ 0 true).wf = false := by decide

theorem test_wf_sources : (Context.payload 0 6 129).wf = false ∧ (Context.delta 0 0 1).wf = false
    ∧ (Context.delta 0 1 6).wf = false ∧ (Context.hfrScales 0 129).wf = false
    ∧ (Source.sequencer (.intensity 15 0)).wf = false := by decide

/-! ### Decoding of words written out from the spec's encodings -/

/-- The instruction of a host read or write. -/
def accessInstr (addr : Word) (width : Nat) (dir : Dir) : Instr := decode (.access ⟨addr, width, dir⟩)

/-- The instruction the bits of a block, given as 0s and 1s, begin with. -/
def bitsInstr (c : Context) (bits : List Nat) : Instr := decode (.stream c (bits.map (· == 1)))

/-- Words of spec/30_encoding.md R80, R81. -/
theorem test_decode_commands : (List.range 5).map (fun v => accessInstr 4 32 (.write (BitVec.ofNat 32 v)))
      = [.nop, .reset, .configure, .decodeBlock, .ack]
    ∧ accessInstr 4 32 (.write 5) = .reservedCmd 5
    ∧ accessInstr 4 32 (.write 0x00000101) = .reservedCmd 0x00000101
    ∧ accessInstr 4 32 (.write 0x80000000) = .reservedCmd 0x80000000 := by decide

/-- Addresses of spec/20_memory.md R60-R65 and of the register table of spec/95_test_vectors.md. -/
theorem test_decode_accesses : accessInstr 0x000 32 .read = .regRead .id
    ∧ accessInstr 0x048 32 .read = .regRead .r09
    ∧ accessInstr 0x050 32 (.write 4) = .regWrite .pcmFormat 4
    ∧ accessInstr 0x107F 8 .read = .athRead 127 ∧ accessInstr 0x1001 8 (.write 7) = .athWrite 1 7
    ∧ accessInstr 0x11FF 8 .read = .cipherRead 255
    ∧ accessInstr 0x1100 8 (.write 0x1FF) = .cipherWrite 0 0xFF
    ∧ accessInstr 0x1FFFE 8 .read = .blockbufRead 65534
    ∧ accessInstr 0x10000 8 (.write 0xFE) = .blockbufWrite 0 0xFE
    ∧ accessInstr 0x2FFFC 32 .read = .pcmbufRead 16383
    ∧ accessInstr 0x30000 32 .read = .badAccess ⟨0x30000, 32, .read⟩ := by decide

/-- The operations of spec/46_commands.md R167. -/
theorem test_decode_sequence : decode (.sequencer .descramble) = .descramble
    ∧ decode (.sequencer .blockStart) = .blockStart ∧ decode (.sequencer (.stage1 3)) = .stage1 3
    ∧ decode (.sequencer (.dequant 3 7)) = .dequant 3 7 ∧ decode (.sequencer (.hfr 3)) = .hfr 3
    ∧ decode (.sequencer (.intensity 3 7)) = .intensity 3 7
    ∧ decode (.sequencer (.synth 3 7)) = .synth 3 7 ∧ decode (.sequencer .pcmOut) = .pcmOut := by
  decide

/-- Fields of spec/30_encoding.md R82-R89: HD-2 and SF-2 of spec/95_test_vectors.md among them. -/
theorem test_decode_fields :
    bitsInstr .header [1, 1, 1, 1, 1, 1, 1, 1, 1, 1, 1, 1, 1, 1, 1, 0] = .sync 0xFFFE
      ∧ bitsInstr .noise [0, 0, 0, 1, 1, 0, 0, 1, 1, 0, 0, 0, 0, 0, 0, 1] = .noise 0x033 1
      ∧ bitsInstr (.sfmode 2) [1, 1, 0] = .sfmode 2 6
      ∧ bitsInstr (.payload 2 0 4) [1, 1, 1] = .sfZero 2
      ∧ bitsInstr (.payload 2 6 2) [0, 0, 0, 0, 1, 1, 1, 1, 1, 1, 1, 1] = .sfRaw 2 [3, 63]
      ∧ bitsInstr (.payload 2 7 2) [0, 0, 0, 0, 1, 1, 1, 1, 1, 1, 1, 1] = .sfRaw 2 [3, 63]
      ∧ bitsInstr (.payload 2 5 4) [0, 0, 1, 0, 1, 0] = .sfFirst 2 10
      ∧ bitsInstr .checksum [1, 1, 0, 0, 1, 1, 0, 0, 1, 1, 0, 0, 1, 1, 0, 1] = .blockChecksum 0xCCCD := by
  decide

/-- The delta codes of SF-4 and SF-5 (spec/95_test_vectors.md 2.4). -/
theorem test_decode_deltas : bitsInstr (.delta 0 1 2) [1, 0] = .sfDelta 0 1 2 2
    ∧ bitsInstr (.delta 0 2 2) [1, 1, 0, 0, 0, 1, 1, 1] = .sfEscape 0 2 2 7
    ∧ bitsInstr (.delta 0 2 3) [0, 1, 1] = .sfDelta 0 2 3 3
    ∧ bitsInstr (.delta 0 3 3) [1, 1, 1, 1, 0, 1, 0, 0, 0] = .sfEscape 0 3 3 40 := by decide

/-- The intensity field of IN-1 and IN-2 and the HFR scale of P4 (spec/95_test_vectors.md 2.5). -/
theorem test_decode_extension :
    bitsInstr (.intensity 1) [1, 1, 1, 0, 1, 1, 1, 1, 0, 0, 0, 0, 0, 0, 0, 1, 0, 0, 1, 0, 0, 0, 1, 1,
        0, 1, 0, 0, 0, 1, 0, 1] = .intensitySet 1 [14, 15, 0, 1, 2, 3, 4, 5]
      ∧ bitsInstr (.intensity 1) [1, 1, 1, 1] = .intensityAll15 1
      ∧ bitsInstr (.hfrScales 0 1) [1, 1, 1, 1, 0, 0] = .hfrScale 0 [60] := by decide

/-- The code words of a resolution with their instructions decode to them, whichever bit follows. -/
def codesDecode (res : BitVec 4) (rows : List (List Nat × (Slot → Instr))) : Bool :=
  rows.all fun r =>
    decide (bitsInstr (.code ⟨1, 2⟩ res) (r.1 ++ [0]) = r.2 ⟨1, 2⟩)
      && decide (bitsInstr (.code ⟨1, 2⟩ res) (r.1 ++ [1]) = r.2 ⟨1, 2⟩)

/-- Spec/30_encoding.md R96, resolutions 0, 1 and 2. -/
theorem test_decode_codes012 : codesDecode 0 [([], .codeR0)] = true
    ∧ codesDecode 1 [([0], .codeR1Zero), ([1, 0], .codeR1P1), ([1, 1], .codeR1M1)] = true
    ∧ codesDecode 2 [([0, 0], .codeR2Zero), ([0, 1], .codeR2P1), ([1, 0], .codeR2M1),
        ([1, 1, 0], .codeR2P2), ([1, 1, 1], .codeR2M2)] = true := by decide +kernel

/-- Spec/30_encoding.md R96, resolutions 3 and 4. -/
theorem test_decode_codes34 :
    codesDecode 3 [([0, 0], .codeR3Zero), ([0, 1, 0], .codeR3P1), ([0, 1, 1], .codeR3M1),
        ([1, 0, 0], .codeR3P2), ([1, 0, 1], .codeR3M2), ([1, 1, 0], .codeR3P3),
        ([1, 1, 1], .codeR3M3)] = true
      ∧ codesDecode 4 [([0, 0, 0], .codeR4Zero), ([0, 0, 1], .codeR4P1), ([0, 1, 0], .codeR4M1),
        ([0, 1, 1], .codeR4P2), ([1, 0, 0], .codeR4M2), ([1, 0, 1], .codeR4P3),
        ([1, 1, 0], .codeR4M3), ([1, 1, 1, 0], .codeR4P4), ([1, 1, 1, 1], .codeR4M4)] = true := by
  decide +kernel

/-- Spec/30_encoding.md R96, resolution 5. -/
theorem test_decode_codes5 :
    codesDecode 5 [([0, 0, 0], .codeR5Zero), ([0, 0, 1], .codeR5P1), ([0, 1, 0], .codeR5M1),
        ([0, 1, 1], .codeR5P2), ([1, 0, 0], .codeR5M2), ([1, 0, 1, 0], .codeR5P3),
        ([1, 0, 1, 1], .codeR5M3), ([1, 1, 0, 0], .codeR5P4), ([1, 1, 0, 1], .codeR5M4),
        ([1, 1, 1, 0], .codeR5P5), ([1, 1, 1, 1], .codeR5M5)] = true := by decide +kernel

/-- Spec/30_encoding.md R96, resolution 6. -/
theorem test_decode_codes6 :
    codesDecode 6 [([0, 0, 0], .codeR6Zero), ([0, 0, 1], .codeR6P1), ([0, 1, 0], .codeR6M1),
        ([0, 1, 1, 0], .codeR6P2), ([0, 1, 1, 1], .codeR6M2), ([1, 0, 0, 0], .codeR6P3),
        ([1, 0, 0, 1], .codeR6M3), ([1, 0, 1, 0], .codeR6P4), ([1, 0, 1, 1], .codeR6M4),
        ([1, 1, 0, 0], .codeR6P5), ([1, 1, 0, 1], .codeR6M5), ([1, 1, 1, 0], .codeR6P6),
        ([1, 1, 1, 1], .codeR6M6)] = true := by decide +kernel

/-- Spec/30_encoding.md R96, resolution 7. -/
theorem test_decode_codes7 :
    codesDecode 7 [([0, 0, 0], .codeR7Zero), ([0, 0, 1, 0], .codeR7P1), ([0, 0, 1, 1], .codeR7M1),
        ([0, 1, 0, 0], .codeR7P2), ([0, 1, 0, 1], .codeR7M2), ([0, 1, 1, 0], .codeR7P3),
        ([0, 1, 1, 1], .codeR7M3), ([1, 0, 0, 0], .codeR7P4), ([1, 0, 0, 1], .codeR7M4),
        ([1, 0, 1, 0], .codeR7P5), ([1, 0, 1, 1], .codeR7M5), ([1, 1, 0, 0], .codeR7P6),
        ([1, 1, 0, 1], .codeR7M6), ([1, 1, 1, 0], .codeR7P7), ([1, 1, 1, 1], .codeR7M7)] = true := by
  decide +kernel

/-- Spec/30_encoding.md R97: the zero codes and a magnitude of each sign. -/
theorem test_decode_large :
    codesDecode 8 [([0, 0, 0, 0], .codeR8Zero), ([1, 1, 1, 1, 0], fun d => .codeR8Mag d 15 false),
        ([0, 0, 0, 1, 1], fun d => .codeR8Mag d 1 true)] = true
      ∧ codesDecode 9 [([0, 0, 0, 0, 0], .codeR9Zero),
        ([0, 0, 0, 0, 1, 1], fun d => .codeR9Mag d 1 true)] = true
      ∧ codesDecode 10 [([0, 0, 0, 0, 0, 0], .codeR10Zero),
        ([0, 0, 0, 0, 0, 1, 1], fun d => .codeR10Mag d 1 true)] = true
      ∧ codesDecode 11 [([0, 0, 0, 0, 0, 0, 0], .codeR11Zero),
        ([1, 0, 0, 0, 0, 0, 1, 0], fun d => .codeR11Mag d 65 false)] = true := by decide +kernel

/-- Spec/30_encoding.md R97: the zero codes and a magnitude of each sign. -/
theorem test_decode_largest :
    codesDecode 12 [([0, 0, 0, 0, 0, 0, 0, 0], .codeR12Zero),
        ([1, 0, 0, 0, 0, 0, 0, 1, 1], fun d => .codeR12Mag d 129 true)] = true
      ∧ codesDecode 13 [([0, 0, 0, 0, 0, 0, 0, 0, 0], .codeR13Zero),
        ([1, 0, 0, 0, 0, 0, 0, 0, 1, 0], fun d => .codeR13Mag d 257 false)] = true
      ∧ codesDecode 14 [([0, 0, 0, 0, 0, 0, 0, 0, 0, 0], .codeR14Zero),
        ([1, 0, 0, 0, 0, 0, 0, 0, 0, 1, 1], fun d => .codeR14Mag d 513 true)] = true
      ∧ codesDecode 15 [([0, 0, 0, 0, 0, 0, 0, 0, 0, 0, 0], .codeR15Zero),
        ([1, 1, 1, 1, 1, 1, 1, 1, 1, 1, 1, 0], fun d => .codeR15Mag d 2047 false),
        ([1, 1, 1, 1, 1, 1, 1, 1, 1, 1, 1, 1], fun d => .codeR15Mag d 2047 true)] = true := by
  decide +kernel

/-! ### Single steps, with the values of spec/95_test_vectors.md -/

/-- The state a step or a meaning goes on in; the reset state where it stops (it never does). -/
def after (r : Result) : State :=
  match r with
  | .next t => t
  | .fault _ => State.reset
  | .refused _ => State.reset

/-- The state after a host access. -/
def accessed (addr : Word) (width : Nat) (dir : Dir) (s : State) : State :=
  after (exec (accessInstr addr width dir) s)

/-- STATUS and FAULT_INFO after a host access. -/
def seen (addr : Word) (width : Nat) (dir : Dir) (s : State) : Word × Word :=
  let t := accessed addr width dir s
  (t.status, t.faultInfo)

/-- The reset state with the registers of AC-9 to AC-16 (spec/95_test_vectors.md 2.12). -/
def withRegisters (c b r01 r02 r03 r05 r06 r07 : Word) : State :=
  { State.reset with
    channels := c, blockSize := b, r01 := r01, r02 := r02, r03 := r03, r05 := r05, r06 := r06, r07 := r07 }

/-- P1 after CONFIGURE: mono, four coefficients. -/
def mono : State := opConfigure (withRegisters 1 8 0 0 1 4 4 0)

/-- The same after an ACK. -/
def acked : State := { mono with done := false }

/-- P3 after CONFIGURE: a stereo pair. -/
def stereo : State := opConfigure (withRegisters 2 43 0 0 1 4 2 2)

/-- P4 after CONFIGURE: mono with high-band reconstruction. -/
def highBand : State := opConfigure { withRegisters 1 32 0 0 1 4 2 0 with r08 := 2 }

/-- A state with DECODE_BLOCK accepted. -/
def busy (s : State) : State := { s with phase := .busy, done := false }

/-- A block in BLOCKBUF. -/
def withBlock (bytes : List Byte) (s : State) : State :=
  { s with mem := (bytes.zipIdx.map fun x => (0x10000 + x.2, x.1)).filter fun c => c.2 != 0 }

/-- AC-8 to AC-15: CONFIGURE reports the first failing check. -/
theorem test_configure_checks :
    ([State.reset, withRegisters 1 7 0 0 0 0 0 0, withRegisters 1 8 2 1 0 0 0 0,
        withRegisters 1 8 0 0 0 0 0 0, withRegisters 1 8 0 0 1 129 0 0, withRegisters 1 8 0 0 1 4 3 2,
        { withRegisters 1 8 0 0 1 4 4 0 with volume := 0x7F800000 },
        { withRegisters 1 8 0 0 1 4 4 0 with pcmFormat := 5 }].map (seen 4 32 (.write 2)))
      = [1, 2, 3, 4, 5, 6, 7, 8].map fun n => (0x00000203, n) := by decide +kernel

/-- AC-16, and TYPE, COUNT, CHTYPE and R09 of P3 and P4. -/
theorem test_configure : mono.status = 0x00000005 ∧ mono.r09 = 0 ∧ mono.chType = 0
    ∧ stereo.chType = 0x00000009 ∧ (stereo.chan 0).type = .primary ∧ (stereo.chan 0).count = 4
    ∧ (stereo.chan 1).type = .secondary ∧ (stereo.chan 1).count = 2 ∧ highBand.r09 = 1 := by
  decide +kernel

/-- AC-4 to AC-7, AC-17, AC-21, AC-40 and AC-42; the faults from DONE = 0, the DONE bit being apart (log 23). -/
theorem test_commands : seen 4 32 (.write 0) State.reset = (0x00000000, 0)
    ∧ seen 4 32 (.write 3) State.reset = (0x00000303, 3)
    ∧ seen 4 32 (.write 5) State.reset = (0x00000103, 5)
    ∧ seen 4 32 (.write 0x101) State.reset = (0x00000103, 0x101)
    ∧ seen 4 32 (.write 2) acked = (0x00000403, 2)
    ∧ seen 4 32 (.write 4) mono = (0x00000001, 0)
    ∧ seen 4 32 (.write 3) mono = (0x00000002, 0)
    ∧ seen 4 32 (.write 0) (busy mono) = (0x00000503, 4)
    ∧ (accessed 4 32 (.write 1) (busy mono)).status = 0 := by decide +kernel

/-- AC-18 to AC-20 and AC-39, the faults from DONE = 0 (log 23). -/
theorem test_writes : seen 0x1000 8 (.write 7) acked = (0x00000403, 0x1000)
    ∧ seen 0x20 32 (.write 2) acked = (0x00000403, 0x20)
    ∧ seen 0xC 32 (.write 1) mono = (0x00000015, 0)
    ∧ seen 0x1100 8 (.write 7) acked = (0x00000403, 0x1100)
    ∧ seen 0x10000 8 (.write 0) (busy mono) = (0x00000503, 0x10000) := by decide +kernel

/-- AC-1 to AC-3, AC-38, AC-41. -/
theorem test_reads : (accessed 0 32 .read State.reset).port.readData = 0x48434431
    ∧ (accessed 0x4C 32 .read State.reset).port.readData = 0x3F800000
    ∧ (accessed 8 32 .read (busy mono)).port.readData = 0x00000002
    ∧ seen 0x20000 32 .read (busy mono) = (0x00000503, 0x20000)
    ∧ (accessed 0x1142 8 .read mono).port.readData = 0x42 := by decide +kernel

/-- AC-22 to AC-32. -/
theorem test_bad_accesses :
    ([(0x54, 32, .read), (0x8, 32, .write 0), (0x4, 32, .read), (0x0, 8, .read), (0x1000, 32, .read),
        (0x1080, 8, .read), (0x20002, 32, .read), (0x20000, 32, .write 0), (0x48, 32, .write 1),
        (0x30000, 32, .read), (0x1FFFF, 8, .write 0)] : List (Word × Nat × Dir)).all
      (fun x => seen x.1 x.2.1 x.2.2 State.reset == (0x00000603, x.1)) = true := by decide +kernel

/-- AC-33 to AC-37, from a BadSync fault. -/
theorem test_faulted :
    let s := acked.raise (.badSync 0xFFFE)
    seen 0x10000 8 (.write 0) s = (0x0000070B, 0xFFFE)
      ∧ (accessed 0x10 32 .read s).port.readData = 0xFFFE ∧ (accessed 0x10 32 .read s).refused = false
      ∧ seen 0x54 32 .read s = (0x0000070B, 0xFFFE)
      ∧ seen 4 32 (.write 4) s = (0x0000070B, 0xFFFE)
      ∧ seen 4 32 (.write 1) s = (0, 0) := by decide +kernel

/-- BR-1 to BR-12: the bit reader. -/
theorem test_bit_reader :
    let s := { withBlock [0xA5, 0x3C, 0xFF, 0x00, 0x81, 0x7E, 0x12, 0x34] State.reset with bitLimit := 48 }
    [(0, 3), (3, 5), (8, 12), (20, 1), (21, 16), (37, 9), (37, 8), (45, 3), (48, 0), (48, 1), (48, 16),
        (40, 16)].map (fun x : Nat × Nat => s.peekAt x.1 x.2)
      = [0x5, 0x05, 0x3CF, 0x1, 0xE010, 0x05F, 0x2F, 0x6, 0, 0, 0, 0] := by decide +kernel

/-- DS-4: each byte substituted, the checksum bytes included. -/
theorem test_descramble :
    let s := { withBlock [0xFE, 0xFE, 0xFF, 0xFF, 0xFF, 0xFF, 0xCB, 0xCB] mono with
      mem := [(0x11CB, 0xCC), (0x11FE, 0xFF), (0x11FF, 0x00)] ++ (withBlock [0xFE, 0xFE, 0xFF, 0xFF,
        0xFF, 0xFF, 0xCB, 0xCB] mono).mem }
    (List.range 8).map (after (exec .descramble s)).blockByte
      = [0xFF, 0xFF, 0x00, 0x00, 0x00, 0x00, 0xCC, 0xCC] := by decide +kernel

/-- HD-3 to HD-6: the block header. -/
theorem test_header : (after (exec (.noise 0 127) mono)).noise = -127
    ∧ (after (exec (.noise 511 127) mono)).noise = 130689
    ∧ (after (exec (.noise 511 0) mono)).noise = 130816
    ∧ (after (exec (.sync 0xFFFE) mono)).status = 0x00000707
    ∧ (after (exec (.sync 0xFFFE) mono)).faultInfo = 0xFFFE
    ∧ (after (exec (.sync 0xFFFE) mono)).bitPos = 16 := by decide +kernel

/-- The scale factors of channel 0 after STAGE1 on side information, with COUNT `count`, from bit 32 of a block
with NOISE 0; and BITPOS less 32. -/
def sideInfo (count : Nat) (bytes : List Byte) (n : Nat) : List (BitVec 6) × Nat × Word × Word :=
  let s := withBlock ([0xFF, 0xFF, 0, 0] ++ bytes)
    { busy mono with bitPos := 32, bitLimit := 32 + 8 * bytes.length }
  let t := after (exec (.stage1 0) (s.modChan 0 fun k => { k with count := count }))
  ((List.range n).map (entry (t.chan 0).sf), t.bitPos - 32, t.status, t.faultInfo)

/-- SF-2, SF-4, SF-5, SF-7 and SF-8. -/
theorem test_scale_factors : sideInfo 2 [0xC1, 0xFE] 3 = ([3, 63, 0], 15, 2, 0)
    ∧ sideInfo 4 [0x45, 0x58, 0xE0] 4 = ([10, 11, 7, 6], 21, 2, 0)
    ∧ sideInfo 4 [0x65, 0x47, 0xE8] 4 = ([10, 11, 11, 40], 24, 2, 0)
    ∧ sideInfo 3 [0x2A, 0xC0, 0x00] 3 = ([21, 0, 0], 17, 2, 0)
    ∧ sideInfo 0 [0x62, 0x80] 2 = ([5, 0], 9, 2, 0) := by decide +kernel

/-- SF-9 and SF-10: ScaleFactorRange. -/
theorem test_scale_factor_range : (sideInfo 4 [0x40, 0x00] 0).2 = (11, 0x00000803, 1)
    ∧ (sideInfo 4 [0xBE, 0x4C] 0).2 = (14, 0x00000803, 1) := by decide +kernel

/-- RS-2 to RS-14: threshold, resolution and base of a coefficient. -/
theorem test_resolutions :
    ([(0, 0, 0, 1), (15360, 0, 0, 1), (7680, 0, 0, 4), (13056, 0, 0, 1), (13056, 7, 1, 1),
        (13056, 0, 2, 63), (-127, 0, 0, 1), (-127, 0, 127, 1), (130816, 255, 127, 1), (0, 255, 0, 63),
        (0, 100, 0, 63), (13056, 0, 0, 10), (13056, 0, 1, 11)] : List (Int × Byte × Nat × BitVec 6)).map
      (fun x => (threshold x.2.1 x.1 x.2.2.1 x.2.2.2,
        fmul (dqStep x.2.2.2.toNat) (resStep (resolution x.2.1 x.1 x.2.2.1 x.2.2.2).toNat)))
      = [(-1, 0x2EE34DBF), (59, 0x34177FB1), (21, 0x3186EB7D), (50, 0x3381DB2A), (57, 0x34177FB1),
        (-105, 0x3BB51045), (-2, 0x2EE34DBF), (-1, 0x2EE34DBF), (765, 0x34177FB1), (99, 0x40F15BEF),
        (-56, 0x3BB51045), (27, 0x333D7E47), (25, 0x337C7CAC)] := by decide +kernel

/-- The two products of spec/95_test_vectors.md 2.7, and CW-20's value. -/
theorem test_coefficients :
    let s := mono.modChan 0 fun k => { k with base := writeRun k.base 0 [0x3BB51045, 0x34177FB1] }
    entry ((after (exec (.codeR5P5 ⟨0, 0⟩) s)).chan 0).spec 0 = 0x3CE25456
      ∧ entry ((after (exec (.codeR1M1 ⟨0, 1⟩) s)).chan 0).spec 1 = 0xB4177FB1
      ∧ fOfInt 2047 = 0x44FFE000 := by decide +kernel

/-- HF-1. -/
theorem test_hfr :
    let s := highBand.modChan 0 fun k => { k with
      sf := writeRun k.sf 0 [63, 63, 60], spec := writeRun k.spec 0 [0x3E7E9EE1, 0xBDE25456] }
    (List.range 5).map (entry ((after (exec (.hfr 0) s)).chan 0).spec)
      = [0x3E7E9EE1, 0xBDE25456, 0xBD3F5A60, 0x3DD745AC, 0] := by decide +kernel

/-- HF-2: HfrUnderflow. -/
theorem test_hfr_underflow :
    let s := { busy highBand with r06 := 1, r09 := 2 }
    (after (exec (.hfr 0) s)).status = 0x00000903 ∧ (after (exec (.hfr 0) s)).faultInfo = 2 := by
  decide +kernel

/-- The parameters T1 of spec/44_synthesis.md R144, with the gate and factor of spec/43_reconstruct.md R137. -/
def paramsT1 (g : Config.IntensityGate) (f : Config.SecondaryFactor) : Config.Params :=
  ⟨fun _ _ => 0x3F800000, fun _ _ => 0, fun _ => 0x3F800000, g, f⟩

/-- The factors of spec/95_test_vectors.md 2.9, under both settings. -/
theorem test_intensity_factors : [0, 7, 8, 14, 15].map (fun k => (intRatio k,
      secondaryFactor (paramsT1 .headerBands .r1Minus2) (intRatio k),
      secondaryFactor (paramsT1 .headerBands .twoMinusR1) (intRatio k)))
    = [(0x40000000, 0, 0), (0x3F800000, 0xBF800000, 0x3F800000), (0x3F5B6DB7, 0xBF924924, 0x3F924924),
      (0, 0xC0000000, 0x40000000), (0, 0xC0000000, 0x40000000)] := by decide +kernel

/-- IS-3 and IS-5, the latter with the gate closed under SubframeNonzero. -/
theorem test_intensity :
    let s := (stereo.modChan 0 fun k => { k with
      spec := writeRun k.spec 2 [0x36FBEFAD, 0x3F000000] }).modChan 1 fun k => { k with
        int := k.int.setIfInBounds 1 14 }
    let pair (p : Config.Params) (sf i : Nat) : F32 × F32 :=
      (entry ((intensity p 0 sf s).chan 0).spec i, entry ((intensity p 0 sf s).chan 1).spec i)
    pair (paramsT1 .headerBands .r1Minus2) 1 2 = (0, 0xB77BEFAD)
      ∧ pair (paramsT1 .headerBands .twoMinusR1) 1 2 = (0, 0x377BEFAD)
      ∧ pair (paramsT1 .headerBands .r1Minus2) 0 3 = (0x3F800000, 0)
      ∧ pair (paramsT1 .subframeNonzero .r1Minus2) 0 3 = (0x3F000000, 0) := by decide +kernel

/-- One level of each pass under T1 (R141, R143): the pairs of 1.0, 2.0, 3.0 and 4.0. -/
theorem test_levels :
    let v := writeRun (Vector.replicate 128 (0 : F32)) 0 [0x3F800000, 0x40000000, 0x40400000,
      0x40800000]
    let b := butterflyLevel 0 v v
    let r := rotationLevel (paramsT1 .headerBands .r1Minus2) 1 v v
    (entry b 0, entry b 1, entry b 64) = (0x40400000, 0x40E00000, 0xBF800000)
      ∧ (entry r 0, entry r 1, entry r 2, entry r 3) = (0x3F800000, 0x40000000, 0x40800000, 0x40400000) := by
  decide +kernel

/-- The output and the new overlap under a window of 1.0 (R146, R147), where the four values below are the only
ones that are not 0.0: WAV2[0] = 1.0, WAV2[127] = 2.0, WAV3[0] = 2.0, WAV3[64] = 1.0. -/
theorem test_window :
    let p := paramsT1 .headerBands .r1Minus2
    let x := ((Vector.replicate 128 (0 : F32)).setIfInBounds 0 0x3F800000).setIfInBounds 127 0x40000000
    let w := ((Vector.replicate 128 (0 : F32)).setIfInBounds 0 0x40000000).setIfInBounds 64 0x3F800000
    [0, 63, 64, 127].map (entry (outputWave p x w w)) = [0x40000000, 0x40000000, 0x3F800000, 0]
      ∧ [0, 63, 64, 127].map (entry (overlap p x w)) = [0, 0x3F800000, 0x3F800000, 0] := by
  decide +kernel

/-- The words of 1.0, 1/3, -Inf, -0.0 and the one below 1.0 in the five formats (spec/95_test_vectors.md 2.11). -/
theorem test_conversions :
    [0x3F800000, 0x3EAAAAAB, 0xFF800000, 0x80000000, 0x3F7FFFFF].map (fun f =>
        (List.range 5).map fun fmt => sampleWord 0x3F800000 fmt f)
      = [[some 0x7FFF, some 0xFF, some 0x7FFFFF, some 0x7FFFFFFF, some 0x3F800000],
        [some 0x2AAA, some 0xAA, some 0x2AAAAA, some 0x2AAAAAC0, some 0x3EAAAAAB],
        [some 0xFFFF8001, some 1, some 0xFF800001, some 0x80000000, some 0xBF800000],
        [some 0, some 0x80, some 0, some 0, some 0x80000000],
        [some 0x7FFE, some 0xFE, some 0x7FFFFE, some 0x7FFFFF80, some 0x3F7FFFFF]] := by decide +kernel

/-- Gain before clamp, and NaN. -/
theorem test_gain : sampleWord 0x3F000000 0 0x3F800000 = some 0x3FFF
    ∧ sampleWord 0x40000000 0 0x3F400000 = some 0x7FFF
    ∧ sampleWord 0xBF800000 0 0x3F800000 = some 0xFFFF8001 := by decide +kernel

/-- P5 to its decoder step: BadSync, with the interrupt of FAULT_IE. -/
theorem test_decoder_step_bad_sync :
    let s := withBlock [0xFF, 0xFE, 0, 0, 0, 0, 0, 0] { busy mono with irqEn := 2 }
    let t := after (step s)
    t.status = 0x00000713 ∧ t.faultInfo = 0xFFFE ∧ t.bitPos = 16 ∧ t.blocksDone = 0 := by decide +kernel

/-! ### Witnesses: the hypotheses of every statement are met -/

theorem witness_DecodeOfEncode : (Instr.codeR15Mag ⟨15, 127⟩ 2047 true).wf = true
    ∧ (Instr.sfRaw 15 (List.replicate 128 63)).wf = true ∧ (Instr.sfDelta 0 1 5 30).wf = true
    ∧ [false] ≠ [] := by decide +kernel

theorem witness_EncodeOfDecodedAccess :
    (∀ v, (⟨0x1FFFE, 8, .write 255⟩ : Access).dir = .write v →
        (⟨0x1FFFE, 8, .write 255⟩ : Access).width = 8 → v.toNat < 256)
      ∧ (∀ v, (⟨0, 8, .read⟩ : Access).dir = .write v → (⟨0, 8, .read⟩ : Access).width = 8 →
        v.toNat < 256) :=
  ⟨by rintro v ⟨⟩ _; decide, by rintro v ⟨⟩⟩

theorem witness_DecodedIsWellFormed : (Source.stream (.delta 15 127 5) []).wf = true
    ∧ (Source.stream (.payload 15 7 128) []).wf = true
    ∧ (Source.sequencer (.intensity 14 7)).wf = true := by decide

theorem witness_EveryPatternHasOneCodeWord : [true, false].length = maxBits 1
    ∧ (List.replicate 12 true).length = maxBits 15
    ∧ (Instr.codeR1P1 ⟨0, 0⟩).wf = true
    ∧ encode (.codeR1P1 ⟨0, 0⟩) = .stream (.code ⟨0, 0⟩ (BitVec.ofNat 4 1)) ([true, false].take 2) := by
  decide

theorem witness_NopAndAck : State.reset.Ready ∧ mono.Ready := ⟨.inl rfl, .inr rfl⟩

theorem witness_ResetGivesResetValues : Reg.pcmFormat ≠ .id ∧ Reg.pcmFormat ≠ .cmd
    ∧ Reg.pcmFormat ≠ .volume := by decide

theorem witness_ReservedCommandFaults : State.reset.Ready
    ∧ ((0x00000101 : Word) >>> 8 ≠ 0 ∨ 0x04 < (0x00000101 : Word).toNat % 256)
    ∧ ((0x00000005 : Word) >>> 8 ≠ 0 ∨ 0x04 < (0x00000005 : Word).toNat % 256) :=
  ⟨.inl rfl, by decide, by decide⟩

/-- For each check a state in which it is the first to fail. -/
def failing : Nat → State
  | 1 => withRegisters 17 8 0 0 1 4 4 0
  | 2 => withRegisters 16 7 0 0 1 4 4 0
  | 3 => withRegisters 1 65535 1 0 1 4 4 0
  | 4 => withRegisters 1 8 31 31 0 4 4 0
  | 5 => withRegisters 1 8 0 31 255 129 4 0
  | 6 => withRegisters 1 8 0 0 1 128 128 1
  | 7 => { withRegisters 1 8 0 0 1 128 127 1 with volume := 0x7F800000 }
  | _ => { withRegisters 1 8 0 0 1 4 4 0 with pcmFormat := 5, volume := 0x7F7FFFFF }

theorem witness_ConfigureReportsFirstFailingCheck (n : Nat) (h : 1 ≤ n) (h' : n ≤ 8) :
    (failing n).phase = .unconfigured ∧ ¬(failing n).condition n
      ∧ ∀ m, 1 ≤ m → m < n → (failing n).condition m := by
  interval_cases n <;> refine ⟨rfl, by simp [State.condition, failing, withRegisters], fun m h1 h2 => ?_⟩ <;>
    interval_cases m <;> simp [State.condition, failing, withRegisters, State.reset]

/-- A configuration at the upper ends of the checks, with R08 not 0. -/
def widest : State := { withRegisters 16 65535 31 31 255 128 1 0 with r08 := 2, pcmFormat := 4 }

theorem witness_ConfigureEffects :
    ((withRegisters 1 8 0 0 1 4 4 0).phase = .unconfigured
        ∧ (withRegisters 1 8 0 0 1 4 4 0).conditions ∧ (withRegisters 1 8 0 0 1 4 4 0).r08 = 0)
      ∧ widest.phase = .unconfigured ∧ widest.conditions ∧ widest.r08 ≠ 0 := by
  refine ⟨⟨rfl, fun n _ _ => ?_, rfl⟩, rfl, fun n _ _ => ?_, by decide⟩ <;> interval_cases n <;>
    simp [State.condition, widest, withRegisters, State.reset]

theorem mono_derived : mono.Derived := by unfold State.Derived; decide +kernel

theorem stereo_derived : stereo.Derived := by unfold State.Derived; decide +kernel

theorem highBand_derived : highBand.Derived := by unfold State.Derived; decide +kernel

theorem witness_ChannelsPairUp :
    (stereo.Configured ∧ stereo.phase = .configured ∧ (stereo.chan 0).type = .primary
        ∧ (stereo.chan 1).type = .secondary)
      ∧ mono.Configured ∧ (busy stereo).Configured ∧ mono.r07 = 0 :=
  ⟨⟨fun _ => stereo_derived, rfl, by decide +kernel, by decide +kernel⟩, fun _ => mono_derived,
    fun _ => stereo_derived, rfl⟩

theorem witness_ConfigurationIsLocked : mono.phase = .configured ∧ Reg.pcmFormat ∈
    [Reg.channels, .blockSize, .r01, .r02, .r03, .r04, .r05, .r06, .r07, .r08, .volume, .pcmFormat] :=
  ⟨rfl, by decide⟩

theorem witness_DecodeBlockAcceptance : mono.phase = .configured ∧ State.reset.phase = .unconfigured :=
  ⟨rfl, rfl⟩

/-- Reads and writes of every window, at the ends of BLOCKBUF and PCMBUF. -/
theorem witness_AccessInBusyFaults : (busy mono).phase = .busy
    ∧ ∀ a ∈ ([⟨0x18, 32, .read⟩, ⟨0x20, 32, .write 0⟩, ⟨4, 32, .write 2⟩, ⟨0x1FFFE, 8, .read⟩,
        ⟨0x10000, 8, .write 1⟩, ⟨0x20000, 32, .read⟩, ⟨0x2FFFC, 32, .read⟩] : List Access),
      ¬FailsChecks a ∧ ¬IsReset a ∧ ¬(a.dir = .read ∧ (a.addr = 4 * 0x00 ∨ a.addr = 4 * 0x02)) := by
  refine ⟨rfl, ?_⟩
  unfold FailsChecks IsReset wordWindow byteWindow
  decide

/-- One access for each check: unmapped, unassigned, the two widths, misaligned, the writes, the read of CMD. -/
theorem witness_BadAccessFaults : mono.phase ≠ .faulted ∧ (busy mono).phase ≠ .faulted
    ∧ ∀ a ∈ ([⟨0x1080, 8, .read⟩, ⟨0x1FFFF, 8, .read⟩, ⟨0x30000, 32, .read⟩, ⟨0x54, 32, .read⟩,
        ⟨0, 8, .read⟩, ⟨0x1000, 32, .read⟩, ⟨0x20002, 32, .read⟩, ⟨0x48, 32, .write 1⟩,
        ⟨0x2FFFC, 32, .write 0⟩, ⟨4, 32, .read⟩] : List Access), FailsChecks a := by
  refine ⟨by decide, by decide, ?_⟩
  unfold FailsChecks wordWindow byteWindow
  decide

/-- A faulted state. -/
def faulted : State := acked.raise (.badSync 0xFFFE)

theorem witness_FaultedRefusesAccesses : faulted.phase = .faulted
    ∧ ∀ a ∈ ([⟨0x54, 32, .read⟩, ⟨4, 32, .write 4⟩, ⟨0x10000, 8, .write 0⟩] : List Access),
      FailsChecks a ∨ (a.dir ≠ .read ∧ ¬IsReset a) := by
  refine ⟨rfl, ?_⟩
  unfold FailsChecks IsReset wordWindow byteWindow
  decide

theorem witness_RegisterReads : mono.phase ≠ .busy ∧ faulted.phase ≠ .busy := by decide

theorem witness_WindowReads : mono.phase ≠ .busy ∧ faulted.phase ≠ .busy := by decide

theorem witness_RegisterWrites : State.reset.Ready ∧ mono.Ready ∧ State.reset.phase = .unconfigured :=
  ⟨.inl rfl, .inr rfl, rfl⟩

theorem witness_ByteWrites : State.reset.mem.wf = true ∧ State.reset.phase = .unconfigured
    ∧ (withBlock [0xFF, 0xFF] mono).mem.wf = true ∧ (withBlock [0xFF, 0xFF] mono).Ready :=
  ⟨rfl, rfl, by decide +kernel, .inr rfl⟩

/-- A state with an access and then the decoder's turn pending. -/
def queued (a : Access) (s : State) : State := s.withInbox [.access a, .decoder]

/-- A state with the decoder's turn pending. -/
def turn (s : State) : State := s.withInbox [.decoder]

theorem witness_StepRunsDecodedAccess :
    (queued ⟨4, 32, .write 3⟩ mono).port.inbox = .access ⟨4, 32, .write 3⟩ :: [.decoder]
      ∧ (turn mono).DecoderTurn ∧ mono.DecoderTurn ∧ mono.phase ≠ .busy :=
  ⟨rfl, .inr ⟨[], rfl⟩, .inl rfl, by decide⟩

theorem witness_DecoderTurnRunsSequence : (turn (busy mono)).DecoderTurn ∧ (busy stereo).DecoderTurn
    ∧ (turn (busy mono)).phase = .busy ∧ (busy stereo).channels.toNat ≤ 16 :=
  ⟨.inr ⟨[], rfl⟩, .inl rfl, rfl, by decide +kernel⟩

/-- Channel 0 of a mono stream before its side information, in a block of some bytes. -/
def beforeSide (bytes : List Byte) : State :=
  withBlock ([0xFF, 0xFF, 0, 0] ++ bytes)
    { busy mono with bitPos := 32, bitLimit := 32 + 8 * bytes.length }

/-- SF-5 runs through and SF-9 faults. -/
theorem witness_StageOneReadsItsFields :
    (beforeSide [0x65, 0x47, 0xE8]).phase ≠ .faulted
      ∧ ((beforeSide [0x65, 0x47, 0xE8]).chan 0).count ≤ 128
      ∧ (after (runItems (sideFields (beforeSide [0x65, 0x47, 0xE8]) 0)
          (beforeSide [0x65, 0x47, 0xE8]))).phase ≠ .faulted
      ∧ (after (runItems (sideFields (beforeSide [0x40, 0]) 0) (beforeSide [0x40, 0]))).phase
        = .faulted := by decide +kernel

theorem witness_DequantReadsItsCodeWords : (busy mono).phase ≠ .faulted
    ∧ ((busy mono).chan 0).count = 4 ∧ ((busy mono).chan 15).count ≤ 128 := by decide +kernel

theorem witness_ReaderReadsTheBitsAhead :
    let s := beforeSide [0x65, 0x47]
    s.bitPos + 16 ≤ s.bitLimit ∧ { s with bitPos := 33 }.bitLimit < 33 + 16 ∧ 16 ≤ 16 := by decide +kernel

theorem witness_HeaderFields : 2 ≤ mono.blockSize.toNat
    ∧ 2 ≤ { mono with blockSize := 2 }.blockSize.toNat ∧ (0xFFFE : BitVec 16) ≠ 0xFFFF := by
  decide +kernel

theorem witness_ScaleFactorPayloads : 6 ≤ (7 : BitVec 3).toNat ∧ 6 ≤ (6 : BitVec 3).toNat
    ∧ 1 ≤ (1 : BitVec 3).toNat ∧ (5 : BitVec 3).toNat ≤ 5
    ∧ (List.replicate 128 (63 : BitVec 6)).length ≤ 128 := by decide +kernel

/-- The four ends of the delta's clauses: v = 0, 63, -1 and 64, after a previous scale factor of 0 and of 60. -/
theorem witness_ScaleFactorDeltas :
    let s := mono.modChan 0 fun k => { k with sf := k.sf.setIfInBounds 1 60 }
    let v (i m d : Nat) : Int := (entry (s.chan 0).sf (i - 1)).toNat + d - ((2 ^ m - 1) / 2 : Nat)
    (v 1 2 1 = 0 ∧ v 2 5 18 = 63 ∧ v 1 2 0 = -1 ∧ v 2 5 19 = 64)
      ∧ (0 : BitVec 5).toNat < 2 ^ (2 : BitVec 3).toNat - 1
      ∧ (19 : BitVec 5).toNat < 2 ^ (5 : BitVec 3).toNat - 1
      ∧ (0 : BitVec 5).toNat < 2 ^ (1 : BitVec 3).toNat - 1 := by decide +kernel

theorem witness_ExtensionFields : [(15 : BitVec 4), 0, 1, 2, 3, 4, 5, 6].length = 8
    ∧ stereo.r06.toNat + stereo.r07.toNat + (List.replicate 124 (63 : BitVec 6)).length ≤ 128 := by
  decide +kernel

/-- Two states whose blocks differ in the two checksum bytes only. -/
theorem witness_ChecksumIsNeverRead :
    let s := { withBlock [0xFF, 0xFF, 0, 0, 0x40, 0, 0xCC, 0xCC] mono with bitLimit := 48, bitPos := 30 }
    let s' := { withBlock [0xFF, 0xFF, 0, 0, 0x40, 0, 0x12, 0x34] mono with bitLimit := 48, bitPos := 30 }
    s.bitLimit = 8 * s.blockSize.toNat - 16 ∧ s'.bitLimit = s.bitLimit ∧ s'.bitPos = s.bitPos
      ∧ (∀ i, i < 6 → s'.blockByte i = s.blockByte i) ∧ s.blockSize.toNat = 8
      ∧ s'.blockByte 6 ≠ s.blockByte 6 ∧ 16 ≤ 16 := by decide +kernel

theorem witness_CodeWordsWithoutMagnitude :
    (plainCodeWords.head?.map fun c => (c.instr ⟨0, 0⟩, c.res)) = some (.codeR0 ⟨0, 0⟩, 0)
      ∧ (plainCodeWords.getLast?.map fun c => (c.instr ⟨0, 0⟩, c.res)) = some (.codeR15Zero ⟨0, 0⟩, 15)
      ∧ plainCodeWords.length = 72 := by decide

theorem witness_CodeWordsWithMagnitude : (1 : BitVec 4) ≠ 0 ∧ (2047 : BitVec 11) ≠ 0 := by decide

/-- Operands for each clause: inside the bound; sums, differences and products at or beyond it on either side; sums and
differences that are exactly zero; infinite operands with a finite one, an equal one, an opposite one, a nonzero and
a zero one; and a NaN. -/
theorem witness_RoundingIsNearestEven :
    (fFinite 0x7F7FFFFF = true ∧ fFinite 0x80000001 = true ∧ fFinite 0xFF7FFFFF = true
        ∧ fFinite 0x73000000 = true ∧ fFinite 0xF3000000 = true)
      ∧ (|fInt 0x7F7FFFFF + fInt 0x80000001| < overflowBound
        ∧ |fInt 0x7F7FFFFF - fInt 0x33800000| < overflowBound
        ∧ |fInt 0x7F7FFFFF * fInt 0x3F800000| < overflowBound * 2 ^ 149
        ∧ fInt (fadd 0x4B800000 0x3F800000) ≠ fInt 0x4B800001)
      ∧ (overflowBound = fInt 0x7F7FFFFF + fInt 0x73000000
        ∧ fInt 0xFF7FFFFF + fInt 0xF3000000 = -overflowBound
        ∧ overflowBound = fInt 0x7F7FFFFF - fInt 0xF3000000
        ∧ fInt 0xFF7FFFFF - fInt 0x73000000 = -overflowBound
        ∧ overflowBound * 2 ^ 149 ≤ |fInt 0xFF7FFFFF * fInt 0x40000000|)
      ∧ (fInt 0x80000000 + fInt 0x80000000 = 0 ∧ fInt 0x3F800000 + fInt 0xBF800000 = 0
        ∧ fInt 0x80000000 - fInt 0x00000000 = 0 ∧ fInt 0x3F800000 - fInt 0x3F800000 = 0)
      ∧ fIsNaN (fmul 0x00000000 0xBF800000) = false
      ∧ (IsInfinity 0x7F800000 ∧ IsInfinity 0xFF800000 ∧ fIsNaN 0x7F800000 = false
        ∧ fIsNaN 0x3F800000 = false ∧ fInt 0x7F800000 ≠ 0 ∧ fInt 0x3F800000 ≠ 0
        ∧ fInt 0x80000000 = 0 ∧ fIsNaN 0x7FC00000 = true) := by
  unfold IsInfinity overflowBound
  decide +kernel

/-- IS-4 of spec/95_test_vectors.md: at k = 14 a +0.0 of the source becomes -0.0 in the next channel, and stays +0.0
in its own. -/
theorem test_signed_zero : fmul 0x00000000 ((secondaryFactors .r1Minus2).getD 14 0) = 0x80000000
    ∧ fmul 0x00000000 (primaryFactors.getD 14 0) = 0x00000000 := by decide +kernel

/-- Overflow goes to the infinity of the exact result's sign, and x + (-x) is +0.0 (IEEE 754, R8). -/
theorem test_overflow_and_cancel : fadd 0xFF7FFFFF 0xFF7FFFFF = 0xFF800000
    ∧ fmul 0xFF7FFFFF 0x40000000 = 0xFF800000 ∧ fadd 0x3F800000 0xBF800000 = 0 := by decide +kernel

theorem witness_FloatOfIntegerIsExact : |(16777215 : Int)| < 2 ^ 24 ∧ |(-16777215 : Int)| < 2 ^ 24 := by
  decide

/-- 1.0 and -1.0, the ends of the clamp, the values next to them, and the infinities. -/
theorem witness_SampleConversion :
    (fIsNaN 0x3F800000 = false ∧ fInt 0x3F800000 = 2 ^ 149)
      ∧ (fIsNaN 0xBF800000 = false ∧ fInt 0xBF800000 = -(2 ^ 149))
      ∧ (fIsNaN 0x3F800001 = false ∧ 2 ^ 149 < fInt 0x3F800001)
      ∧ (fIsNaN 0xBF800001 = false ∧ fInt 0xBF800001 < -(2 ^ 149))
      ∧ (fIsNaN 0x7F800000 = false ∧ 2 ^ 149 < fInt 0x7F800000)
      ∧ (fIsNaN 0xFF800000 = false ∧ fInt 0xFF800000 < -(2 ^ 149)) := by decide +kernel

theorem witness_DescrambleSubstitutesOnce : (withBlock [0, 0, 0xFF, 0xFF] mono).mem.wf = true
    ∧ mono.blockSize.toNat ≤ 65535 ∧ { mono with blockSize := 65535 }.blockSize.toNat ≤ 65535 := by
  decide +kernel

/-- Modes 0, 6 and 7, and a type-2 channel whose intensity field is all ones and one whose field is not. -/
theorem witness_StageOneWithoutDeltas :
    (beforeSide [0, 0]).phase ≠ .faulted ∧ ((beforeSide [0, 0]).chan 0).count ≤ 128
      ∧ (beforeSide [0, 0]).r06.toNat + (beforeSide [0, 0]).r07.toNat + (beforeSide [0, 0]).r09.toNat ≤ 128
      ∧ (beforeSide [0, 0]).peek 3 = 0 ∧ (beforeSide [0xC1, 0xFE]).peek 3 = 6
      ∧ (beforeSide [0xE0, 0]).peek 3 = 7
      ∧ (stereo.chan 1).type = .secondary
      ∧ (withBlock [0x1E] { stereo with bitLimit := 48 }).peek 3 = 0
      ∧ (withBlock [0x1E] { stereo with bitLimit := 48 }).peekAt 3 4 = 15
      ∧ (withBlock [0x1C] { stereo with bitLimit := 48 }).peekAt 3 4 = 14 := by decide +kernel

/-- RS-1 to RS-4 as states: a scale factor 0, and thresholds below 0, of 59 and of 21; and an index at COUNT. -/
theorem witness_ResolutionAndBase :
    let s (n : Int) (bytes : List Byte) : State := { beforeSide bytes with noise := n }
    let t (n : Int) (bytes : List Byte) : State := after (exec (.stage1 0) (s n bytes))
    ((s 0 [0, 0]).phase ≠ .faulted ∧ ((s 0 [0, 0]).chan 0).count = 4)
      ∧ ((t 0 [0, 0]).phase ≠ .faulted ∧ entry ((t 0 [0, 0]).chan 0).sf 0 = 0)
      ∧ ((t 0 [0xC0, 0x80, 0, 0]).phase ≠ .faulted ∧ entry ((t 0 [0xC0, 0x80, 0, 0]).chan 0).sf 0 = 1
        ∧ threshold 0 0 0 1 = -1 ∧ threshold 0 15360 0 1 = 59 ∧ threshold 0 7680 0 4 = 21
        ∧ threshold 0 (256 * 57) 0 1 = 56 ∧ threshold 0 (256 * 58) 0 1 = 57 ∧ threshold 0 256 0 1 = 0)
      ∧ (0 < 64 ∧ 63 < 64 ∧ 0 < 63 ∧ 62 < 63 ∧ 1 ≤ 15 ∧ 15 ≤ 15) := by
  decide +kernel

theorem witness_HfrMirrorsTheCodedBand :
    ((highBand.chan 0).type ≠ .secondary ∧ highBand.r08 ≠ 0 ∧ highBand.phase ≠ .faulted
        ∧ highBand.r05.toNat ≤ 128 ∧ highBand.r06.toNat + highBand.r07.toNat ≤ highBand.r05.toNat
        ∧ highBand.r05.toNat ≤ 2 * (highBand.r06.toNat + highBand.r07.toNat)
        ∧ highBand.r05.toNat - (highBand.r06.toNat + highBand.r07.toNat)
          ≤ highBand.r09.toNat * highBand.r08.toNat)
      ∧ (stereo.chan 1).type = .secondary ∧ mono.r08 = 0
      ∧ (1 ≤ 1 ∧ 1 ≤ 126 ∧ 126 ≤ 126) := by decide +kernel

theorem witness_HfrUnderflowFaults :
    let s := { highBand with r06 := 1, r09 := 2 }
    s.phase ≠ .faulted ∧ (s.chan 0).type ≠ .secondary ∧ s.r08 ≠ 0 ∧ s.r05.toNat ≤ 128
      ∧ 2 * (s.r06.toNat + s.r07.toNat) < s.r05.toNat
      ∧ s.r05.toNat - (s.r06.toNat + s.r07.toNat) ≤ s.r09.toNat * s.r08.toNat := by decide +kernel

/-- A pair whose gate is open under both settings, one whose gate is closed under both, and a type-2 channel. -/
theorem witness_IntensityScalesThePair :
    ((stereo.chan 0).type = .primary ∧ stereo.r07 ≠ 0
        ∧ entry ((stereo.modChan 1 fun k => { k with int := k.int.setIfInBounds 0 7 }).chan 1).int 0 ≠ 0)
      ∧ ((mono.chan 0).type ≠ .primary) ∧ (stereo.chan 1).type ≠ .primary ∧ (14 : Chan).val < 15
      ∧ (0 < 16 ∧ 15 < 16 ∧ 0 < 14 ∧ 13 < 14) := by
  decide +kernel

theorem witness_ButterflyLevelPairs : 6 < 7 ∧ 63 < 2 ^ 6 ∧ 0 < 64 >>> 6 ∧ 63 < 64 >>> 0 ∧ 0 < 2 ^ 0 := by
  decide

theorem witness_RotationLevelPairs : 6 < 7 ∧ 0 < 64 >>> 6 ∧ 63 < 2 ^ 6 ∧ 63 < 64 >>> 0 ∧ 0 < 2 ^ 0 := by
  decide

theorem witness_SynthOverlapAdd : 63 < 64 ∧ (7 : Nat) ≠ (6 : Sub).val := by decide

theorem witness_SilenceStaysSilent :
    let p := paramsT1 .headerBands .r1Minus2
    (∀ lv t, lv < 7 → t < 64 → fFinite (p.synthSin lv t) = true ∧ fFinite (p.synthCos lv t) = true)
      ∧ (∀ i, i < 128 → fFinite (p.synthWindow i) = true)
      ∧ ∀ i, i < 128 → entry (Channel.reset).spec i = 0 ∧ entry (Channel.reset).wav3 i = 0 := by
  have h : fFinite 0x3F800000 = true ∧ fFinite 0 = true := by decide
  exact ⟨fun _ _ _ _ => h, fun _ _ => h.1, by decide +kernel⟩

/-- With the channels of reset every sample is +0.0. -/
theorem wave_reset (s : State) (h : s.chans = State.reset.chans) (ch sf j : Nat) : s.wave ch sf j = 0 := by
  unfold State.wave State.chan
  rw [h]
  simp only [State.reset, Vector.getElem?_replicate]
  split <;> simp only [Option.getD_some, Option.getD_none, Channel.reset, Vector.getElem?_replicate] <;>
    split <;> simp only [Option.getD_some, Option.getD_none, entry, Vector.getElem?_replicate] <;>
      split <;> rfl

theorem witness_PcmOutWritesTheBlock :
    let s := { State.reset with channels := 16 }
    pcmWf s.pcm = true ∧ s.channels.toNat ≤ 16
      ∧ ∀ sf j ch, sf < 8 → j < 128 → ch < s.channels.toNat →
        fIsNaN (fmul (s.wave ch sf j) s.volume) = false := by
  refine ⟨rfl, by decide, fun sf j ch _ _ _ => ?_⟩
  exact (congrArg (fun x => fIsNaN (fmul x 0x3F800000)) (wave_reset _ rfl ch sf j)).trans
    (by decide +kernel)

/-- A NaN at channel 1, subframe 1, sample 5 of two channels, nothing but +0.0 elsewhere. -/
def noisy : State :=
  { State.reset with channels := 2 }.setChan 1 { Channel.reset with
    wave := (Vector.replicate 8 (Vector.replicate 128 0)).setIfInBounds 1
      ((Vector.replicate 128 0).setIfInBounds 5 0x7FC00000) }

theorem wave_noisy : ∀ sf, sf < 8 → ∀ j, j < 128 → ∀ ch, ch < 2 →
    noisy.wave ch sf j = if sf = 1 ∧ j = 5 ∧ ch = 1 then 0x7FC00000 else 0 := by decide +kernel

theorem witness_PcmOutFaultsOnTheFirstNaN : noisy.channels.toNat ≤ 16 ∧ 1 < noisy.channels.toNat
    ∧ fIsNaN (fmul (noisy.wave 1 1 5) noisy.volume) = true
    ∧ ∀ sf' j' ch', sf' < 8 → j' < 128 → ch' < noisy.channels.toNat →
      sf' < 1 ∨ (sf' = 1 ∧ (j' < 5 ∨ (j' = 5 ∧ ch' < 1))) →
      fIsNaN (fmul (noisy.wave ch' sf' j') noisy.volume) = false := by
  refine ⟨by decide, by decide, ?_, fun sf j ch hs hj hc h => ?_⟩
  · rw [wave_noisy 1 (by omega) 5 (by omega) 1 (by omega)]
    have hn : fIsNaN 0x7FC00000 = true := by decide
    simp only [and_self, if_true, fmul, hn, Bool.true_or, fNaN]
    split
    · assumption
    · exact hn
  · rw [wave_noisy sf hs j hj ch hc, if_neg (by omega)]
    decide +kernel

/-- A good state whose PCMBUF is empty. -/
theorem good_of {s : State} (hm : s.Canonical) (hf : s.FaultRecord)
    (hd : s.phase = .configured ∨ s.phase = .busy → s.Derived) (hu : s.phase = .unconfigured →
      s.chans = State.reset.chans ∧ s.bitPos = 0 ∧ s.noise = 0 ∧ s.blocksDone = 0 ∧ s.done = false)
    (hp : s.pcm = []) (hb : s.bitPos ≤ 231424) : s.Good :=
  ⟨hm, hf, hd, fun h => ⟨(hu h).1, hp, (hu h).2⟩, hb, fun _ _ => by rw [hp]; rfl⟩

/-- The step goes on. -/
def Steps (s : State) : Prop := step s = .next (after (step s))

/-- The step goes on in another phase. -/
def ChangesPhase (s : State) : Prop := Steps s ∧ (after (step s)).phase ≠ s.phase

/-- An access in UNCONFIGURED, in CONFIGURED and in FAULTED, and the decoder's turn in BUSY. -/
theorem witness_StepKeepsGood :
    ((queued ⟨0x20, 32, .write 1⟩ (withRegisters 1 8 0 0 1 4 4 0)).Good
        ∧ Steps (queued ⟨0x20, 32, .write 1⟩ (withRegisters 1 8 0 0 1 4 4 0)))
      ∧ ((queued ⟨4, 32, .write 3⟩ mono).Good ∧ Steps (queued ⟨4, 32, .write 3⟩ mono))
      ∧ ((queued ⟨4, 32, .write 1⟩ faulted).Good ∧ Steps (queued ⟨4, 32, .write 1⟩ faulted))
      ∧ ((turn (busy mono)).Good ∧ Steps (turn (busy mono))) :=
  ⟨⟨good_of ⟨rfl, rfl⟩ (by unfold State.FaultRecord; decide +kernel) (by rintro (h | h) <;> cases h)
      (fun _ => ⟨rfl, rfl, rfl, rfl, rfl⟩) rfl (Nat.zero_le _), rfl⟩,
    ⟨good_of ⟨rfl, rfl⟩ (by unfold State.FaultRecord; decide +kernel) (fun _ => mono_derived)
      (fun h => absurd h (by decide)) rfl (Nat.zero_le _), rfl⟩,
    ⟨good_of ⟨rfl, rfl⟩ (by unfold State.FaultRecord; decide +kernel) (by rintro (h | h) <;> cases h)
      (fun h => absurd h (by decide)) rfl (Nat.zero_le _), rfl⟩,
    ⟨good_of ⟨rfl, rfl⟩ (by unfold State.FaultRecord; decide +kernel) (fun _ => mono_derived)
      (fun h => absurd h (by decide)) rfl (Nat.zero_le _), rfl⟩⟩

theorem witness_StepKeepsStoresCanonical :
    let s := queued ⟨0x10000, 8, .write 1⟩ (withBlock [0, 0xFF] mono)
    s.Canonical ∧ step s = .next (after (step s)) := ⟨⟨by decide +kernel, rfl⟩, rfl⟩

theorem witness_StepKeepsFaultRecord :
    let s := queued ⟨0x10000, 8, .write 1⟩ faulted
    s.FaultRecord ∧ step s = .next (after (step s)) :=
  ⟨by unfold State.FaultRecord; decide +kernel, rfl⟩

theorem witness_StepKeepsBitPosBounded :
    let s := { turn (busy mono) with bitPos := 231424 }
    s.Configured ∧ s.BitPosBounded ∧ step s = .next (after (step s)) :=
  ⟨fun _ => mono_derived, Nat.le_refl _, rfl⟩

/-- RESET, CONFIGURE, DECODE_BLOCK, a host fault and a decode fault change the phase. -/
theorem witness_PhaseTransitions : ChangesPhase (queued ⟨4, 32, .write 1⟩ faulted)
    ∧ ChangesPhase (queued ⟨4, 32, .write 2⟩ (withRegisters 1 8 0 0 1 4 4 0))
    ∧ ChangesPhase (queued ⟨4, 32, .write 3⟩ mono) ∧ ChangesPhase (queued ⟨4, 32, .write 5⟩ mono)
    ∧ ChangesPhase (turn (busy mono)) :=
  ⟨⟨rfl, by decide +kernel⟩, ⟨rfl, by decide +kernel⟩, ⟨rfl, by decide +kernel⟩,
    ⟨rfl, by decide +kernel⟩, ⟨rfl, by decide +kernel⟩⟩

theorem witness_FaultedUntilReset : (queued ⟨4, 32, .write 1⟩ faulted).phase = .faulted
    ∧ Steps (queued ⟨4, 32, .write 1⟩ faulted) ∧ Steps (queued ⟨4, 32, .write 4⟩ faulted) :=
  ⟨rfl, rfl, rfl⟩

theorem witness_ConfigurationHoldsUntilReset :
    let s := queued ⟨0x10000, 8, .write 1⟩ mono
    s.mem.wf = true ∧ s.phase ≠ .unconfigured ∧ step s = .next (after (step s))
      ∧ s.nextInstr ≠ some .reset := ⟨rfl, by decide, rfl, by decide +kernel⟩

theorem witness_DecoderStepAsTheHostSeesIt :
    let s := turn (busy (withBlock [0xFF, 0xFF] mono))
    s.DecoderTurn ∧ s.phase = .busy ∧ s.mem.wf = true ∧ pcmWf s.pcm = true ∧ s.channels.toNat ≤ 16
      ∧ s.blockSize.toNat ≤ 65535 :=
  ⟨.inr ⟨[], rfl⟩, rfl, by decide +kernel, rfl, by decide, by decide⟩

/-- Two states that differ in channel 5. -/
theorem witness_ChannelStateIsPrivate :
    let s := busy stereo
    let s' := s.modChan 5 fun k => { k with count := 9 }
    { s' with chans := s.chans } = s ∧ s'.chan 0 = s.chan 0 ∧ (s'.chan 1).int = (s.chan 1).int
      ∧ s'.chan 5 ≠ s.chan 5 ∧ exec (.stage1 0) s = .next (after (exec (.stage1 0) s))
      ∧ exec (.stage1 0) s' = .next (after (exec (.stage1 0) s'))
      ∧ exec (.intensity 0 7) s = .next (after (exec (.intensity 0 7) s)) := by
  refine ⟨rfl, State.chan_modChan_ne _ _ (by decide), ?_, ?_, rfl, rfl, rfl⟩
  · rw [State.chan_modChan_ne _ _ (by decide)]
  · intro h
    have := congrArg Channel.count h
    rw [State.chan_modChan_self _ _ (by decide)] at this
    exact absurd this (by decide +kernel)

/-- Two states that differ in NOISE, BITPOS, BITLIMIT and a spectrum, but not in WAV3. -/
theorem witness_OverlapIsTheOnlyCarry :
    let s := turn (busy stereo)
    let s' := { s with noise := 5, bitPos := 7, bitLimit := 9 }.modChan 1 fun k =>
      { k with spec := k.wav3, sf := Vector.replicate 128 7 }
    s.Configured ∧ s.phase = .busy ∧ s.DecoderTurn
      ∧ { s' with noise := s.noise, bitPos := s.bitPos, bitLimit := s.bitLimit, chans := s.chans } = s
      ∧ (∀ ch, (s'.chan ch).type = (s.chan ch).type ∧ (s'.chan ch).count = (s.chan ch).count
        ∧ (s'.chan ch).wav3 = (s.chan ch).wav3)
      ∧ step s = .next (after (step s)) ∧ step s' = .next (after (step s')) := by
  refine ⟨fun _ => stereo_derived, rfl, .inr ⟨[], rfl⟩, rfl, fun ch => ?_, rfl, rfl⟩
  by_cases h : ch = 1
  · subst h
    rw [State.chan_modChan_self _ _ (by decide)]
    exact ⟨rfl, rfl, rfl⟩
  · rw [State.chan_modChan_ne _ _ h]
    exact ⟨rfl, rfl, rfl⟩

end Sys2Proof.Tests
end

section
/-! SUPPORT. The binary32 arithmetic of spec/00_scope.md R8: the fields of a bit pattern, rounding a quotient to
nearest even, and what fRound answers. -/

namespace Sys2Proof.Machine

/-! ### The fields of a bit pattern -/

/-- An integer, negated where the sign says so. -/
def withSign (neg : Bool) (n : Int) : Int := if neg then -n else n

theorem fInt_eq_withSign (x : F32) : fInt x = withSign (fNeg x) (fUnits x) := rfl

theorem withSign_withSign (neg : Bool) (n : Int) : withSign neg (withSign neg n) = n := by
  cases neg <;> simp [withSign]

theorem withSign_mul (neg : Bool) (n c : Int) : withSign neg (n * c) = withSign neg n * c := by
  cases neg <;> simp [withSign]

theorem withSign_natAbs (n : Int) : withSign (decide (n < 0)) n.natAbs = n := by
  by_cases h : n < 0
  · simp only [withSign, h, decide_true, if_true]
    omega
  · simp only [withSign, h, decide_false, Bool.false_eq_true, if_false]
    omega

theorem abs_withSign_mul_sub (neg : Bool) (n c m : Int) :
    |withSign neg n * c - withSign neg m| = |n * c - m| := by
  cases neg
  · rfl
  · simp only [withSign, if_true, abs_sub_comm (n * c)]
    congr 1
    ring

theorem fInt_eq_zero_iff (x : F32) : fInt x = 0 ↔ fUnits x = 0 := by
  unfold fInt
  split <;> omega

theorem getLsbD_31_eq_fNeg (x : F32) : x.getLsbD 31 = fNeg x := by
  have hx := x.isLt
  rw [BitVec.getLsbD, Nat.testBit_eq_decide_div_mod_eq]
  exact decide_eq_decide.mpr (by omega)

theorem fFinite_eq_true_iff (x : F32) : fFinite x = true ↔ fExp x ≠ 255 := by simp [fFinite]

theorem not_fIsNaN_of_fFinite {x : F32} (h : fFinite x = true) : fIsNaN x = false := by
  simp [fIsNaN, (fFinite_eq_true_iff x).mp h]

theorem not_fIsInf_of_fFinite {x : F32} (h : fFinite x = true) : fIsInf x = false := by
  simp [fIsInf, (fFinite_eq_true_iff x).mp h]

/-- An infinity is one of the two patterns of exponent 255 and fraction 0. -/
theorem isInfinity_iff (x : F32) : IsInfinity x ↔ fIsInf x = true := by
  have hx := x.isLt
  have hpos : (0x7F800000 : F32).toNat = 0x7F800000 := rfl
  have hneg : (0xFF800000 : F32).toNat = 0xFF800000 := rfl
  simp only [IsInfinity, fIsInf, fExp, fFrac, BitVec.toNat_eq, Bool.and_eq_true, beq_iff_eq, hpos, hneg]
  omega

theorem isInfinity_fInf (neg : Bool) : IsInfinity (fInf neg) := by
  cases neg
  · exact .inl rfl
  · exact .inr rfl

theorem fNeg_fInf (neg : Bool) : fNeg (fInf neg) = neg := by cases neg <;> rfl

theorem eq_fInf_of_fIsInf {x : F32} (h : fIsInf x = true) : x = fInf (fNeg x) := by
  rcases (isInfinity_iff x).mpr h with rfl | rfl <;> rfl

theorem not_fIsNaN_of_isInfinity {x : F32} (h : IsInfinity x) : fIsNaN x = false := by
  rcases h with rfl | rfl <;> rfl

theorem fIsNaN_fNaN (op : Nat) (a b : F32) : fIsNaN (fNaN op a b) = true := by
  unfold fNaN
  split
  · assumption
  · rfl

/-- -0.0 is the one negative pattern of magnitude 0. -/
theorem eq_negZero_iff (x : F32) : x = 0x80000000 ↔ fNeg x = true ∧ fUnits x = 0 := by
  have hx := x.isLt
  constructor
  · rintro rfl
    exact ⟨rfl, rfl⟩
  · rintro ⟨hneg, hunits⟩
    simp only [fNeg, decide_eq_true_eq] at hneg
    unfold fUnits at hunits
    split at hunits
    case isTrue he =>
      simp only [fExp, fFrac] at he hunits
      have hzero : (0x80000000 : F32).toNat = 2 ^ 31 := rfl
      exact BitVec.eq_of_toNat_eq (by omega)
    case isFalse => simp at hunits

/-! ### The opposite of a value -/

theorem toNat_flipSign (x : F32) : (x ^^^ 0x80000000).toNat = x.toNat ^^^ 2 ^ 31 := rfl

theorem fExp_flipSign (x : F32) : fExp (x ^^^ 0x80000000) = fExp x := by
  have hmod : ∀ n, n % 256 = n % 2 ^ 8 := fun _ => rfl
  simp only [fExp, toNat_flipSign, Nat.xor_div_two_pow, hmod, Nat.xor_mod_two_pow]
  exact Nat.xor_zero _

theorem fFrac_flipSign (x : F32) : fFrac (x ^^^ 0x80000000) = fFrac x := by
  simp only [fFrac, toNat_flipSign, Nat.xor_mod_two_pow]
  exact Nat.xor_zero _

theorem fNeg_flipSign (x : F32) : fNeg (x ^^^ 0x80000000) = !fNeg x := by
  rw [← getLsbD_31_eq_fNeg, ← getLsbD_31_eq_fNeg, BitVec.getLsbD_xor]
  exact Bool.xor_true _

theorem fUnits_flipSign (x : F32) : fUnits (x ^^^ 0x80000000) = fUnits x := by
  simp only [fUnits, fExp_flipSign, fFrac_flipSign]

theorem fInt_flipSign (x : F32) : fInt (x ^^^ 0x80000000) = -fInt x := by
  simp only [fInt, fNeg_flipSign, fUnits_flipSign]
  cases fNeg x <;> simp

theorem fFinite_flipSign (x : F32) : fFinite (x ^^^ 0x80000000) = fFinite x := by
  simp only [fFinite, fExp_flipSign]

theorem fIsNaN_flipSign (x : F32) : fIsNaN (x ^^^ 0x80000000) = fIsNaN x := by
  simp only [fIsNaN, fExp_flipSign, fFrac_flipSign]

/-! ### A quotient rounded to nearest, ties to even -/

/-- `m / D` rounded to the nearest integer, ties to even. -/
def nearestQuot (m D : Nat) : Nat :=
  if D < 2 * (m % D) ∨ (2 * (m % D) = D ∧ m / D % 2 = 1) then m / D + 1 else m / D

/-- The four cases of the rounding: down, up, and a tie either way. -/
theorem nearestQuot_cases {m D : Nat} (hD : 0 < D) :
    ∃ r rem, m = r * D + rem ∧ rem < D ∧
      ((nearestQuot m D = r ∧ 2 * rem < D) ∨ (nearestQuot m D = r + 1 ∧ D < 2 * rem)
        ∨ (nearestQuot m D = r ∧ 2 * rem = D ∧ r % 2 = 0)
        ∨ (nearestQuot m D = r + 1 ∧ 2 * rem = D ∧ r % 2 = 1)) := by
  refine ⟨m / D, m % D, by rw [mul_comm, Nat.div_add_mod], Nat.mod_lt _ hD, ?_⟩
  unfold nearestQuot
  split <;> omega

theorem nearestQuot_lt_iff {m D N : Nat} (hD : 0 < D) (hN : N % 2 = 0) :
    nearestQuot m D < N ↔ 2 * m + D < 2 * (N * D) := by
  obtain ⟨r, rem, hm, hrem, hcases⟩ := nearestQuot_cases (m := m) hD
  rcases Nat.lt_trichotomy (r + 1) N with hlt | heq | hgt
  · have : (r + 2) * D ≤ N * D := Nat.mul_le_mul_right D (by omega)
    have : (r + 2) * D = r * D + 2 * D := by ring
    omega
  · have : N * D = r * D + D := by rw [← heq]; ring
    omega
  · have : N * D ≤ r * D := Nat.mul_le_mul_right D (by omega)
    omega

theorem le_nearestQuot {m D N : Nat} (hD : 0 < D) (h : N * D ≤ m) : N ≤ nearestQuot m D := by
  have : N ≤ m / D := (Nat.le_div_iff_mul_le hD).mpr h
  unfold nearestQuot
  split <;> omega

theorem nearestQuot_le {m D N : Nat} (hD : 0 < D) (h : m < N * D) : nearestQuot m D ≤ N := by
  have : m / D < N := (Nat.div_lt_iff_lt_mul hD).mpr h
  unfold nearestQuot
  split <;> omega

theorem nearestQuot_mul_of_dvd {m D : Nat} (hD : 0 < D) (h : D ∣ m) : nearestQuot m D * D = m := by
  have hrem := Nat.mod_eq_zero_of_dvd h
  have hq : nearestQuot m D = m / D := if_neg (by omega)
  rw [hq, Nat.div_mul_cancel h]

/-- Where a multiple of `D` lies beside two consecutive ones. -/
theorem mul_below_or_next_or_above (j r : Int) (D : Nat) :
    j * D ≤ r * D - D ∨ j = r ∨ j = r + 1 ∨ r * D + 2 * D ≤ j * D := by
  rcases Int.lt_or_le j r with hlt | hge
  · have := mul_le_mul_of_nonneg_right (show j ≤ r - 1 by omega) (Int.natCast_nonneg D)
    exact .inl (this.trans_eq (by ring))
  · rcases Int.lt_or_le (r + 1) j with hgt | hle
    · have := mul_le_mul_of_nonneg_right (show r + 2 ≤ j by omega) (Int.natCast_nonneg D)
      exact .inr (.inr (.inr (this.trans_eq' (by ring))))
    · omega

/-- No multiple of `D` is nearer to `m`; another one is as near only where the quotient is even. -/
theorem nearestQuot_nearest {m D : Nat} (hD : 0 < D) (j : Int) (hj : j ≠ nearestQuot m D) :
    |(nearestQuot m D * D : Int) - m| ≤ |j * D - m|
      ∧ (|(nearestQuot m D * D : Int) - m| = |j * D - m| → nearestQuot m D % 2 = 0) := by
  obtain ⟨r, rem, hm, hrem, hcases⟩ := nearestQuot_cases (m := m) hD
  have hm' : (m : Int) = r * D + rem := by exact_mod_cast hm
  have hsucc : ((r : Int) + 1) * D = r * D + D := by ring
  simp only [Int.abs_eq_natAbs, hm']
  rcases hcases with ⟨hq, hlt⟩ | ⟨hq, hlt⟩ | ⟨hq, hlt⟩ | ⟨hq, hlt⟩ <;>
    simp only [hq, Nat.cast_succ] at hj ⊢ <;>
    rcases mul_below_or_next_or_above j r D with h | rfl | rfl | h <;> omega

/-- A value below a multiple of `D` that is at most `m` is farther from `m` than the rounded quotient. -/
theorem nearestQuot_nearer {m D N : Nat} (hD : 0 < D) (hN : N * D ≤ m) (v : Int) (hv : v < N * D) :
    |(nearestQuot m D * D : Int) - m| < |v - m| := by
  obtain ⟨r, rem, hm, hrem, hcases⟩ := nearestQuot_cases (m := m) hD
  have hNr : N * D ≤ r * D := by
    refine Nat.mul_le_mul_right D (Nat.lt_succ_iff.mp (Nat.lt_of_mul_lt_mul_right (a := D) ?_))
    rw [Nat.succ_mul]
    omega
  have hm' : (m : Int) = r * D + rem := by exact_mod_cast hm
  have hNr' : (N * D : Int) ≤ r * D := by exact_mod_cast hNr
  have hsucc : ((r : Int) + 1) * D = r * D + D := by ring
  simp only [Int.abs_eq_natAbs, hm']
  rcases hcases with ⟨hq, hlt⟩ | ⟨hq, hlt⟩ | ⟨hq, hlt⟩ | ⟨hq, hlt⟩ <;>
    simp only [hq, Nat.cast_succ] <;> omega

/-! ### What fRound answers -/

/-- The exponent of the result's last place above 2^-149. -/
def lastPlace (m k : Nat) : Nat := m.log2 - 23 - k

/-- The rounded magnitude, in units of the result's last place. -/
def roundedDigits (m k : Nat) : Nat := nearestQuot m (2 ^ (lastPlace m k + k))

/-- The pattern of the rounded magnitude, before an overflow is replaced by an infinity. -/
def roundedPattern (m k : Nat) : Nat := lastPlace m k * 2 ^ 23 + roundedDigits m k

theorem fRound_eq (neg : Bool) (m k : Nat) :
    fRound neg m k
      = BitVec.ofNat 32 ((if neg then 2 ^ 31 else 0) + min (roundedPattern m k) 0x7F800000) := by
  simp only [fRound, roundedPattern, roundedDigits, nearestQuot, lastPlace, Bool.or_eq_true,
    Bool.and_eq_true, decide_eq_true_eq, beq_iff_eq]
  congr

theorem toNat_fRound (neg : Bool) (m k : Nat) :
    (fRound neg m k).toNat = (if neg then 2 ^ 31 else 0) + min (roundedPattern m k) 0x7F800000 := by
  rw [fRound_eq, BitVec.toNat_ofNat, Nat.mod_eq_of_lt]
  split <;> omega

theorem fNeg_fRound (neg : Bool) (m k : Nat) : fNeg (fRound neg m k) = neg := by
  rw [fNeg, toNat_fRound]
  cases neg
  · exact decide_eq_false (by simp)
  · exact decide_eq_true (by simp)

/-- The last place leaves 24 digits, the first of them 1 unless the last place is the least there is. -/
theorem digits_bounds (m k : Nat) :
    m < 2 ^ 24 * 2 ^ (lastPlace m k + k)
      ∧ (lastPlace m k = 0 ∨ 2 ^ 23 * 2 ^ (lastPlace m k + k) ≤ m) := by
  unfold lastPlace
  rw [← pow_add, ← pow_add]
  constructor
  · exact Nat.lt_log2_self.trans_le (Nat.pow_le_pow_right (by decide) (by omega))
  · rcases Nat.eq_zero_or_pos (m.log2 - 23 - k) with h | h
    · exact .inl h
    · have hm : m ≠ 0 := by
        rintro rfl
        simp at h
      rw [show 23 + (m.log2 - 23 - k + k) = m.log2 by omega]
      exact .inr (Nat.log2_self_le hm)

theorem roundedDigits_le (m k : Nat) : roundedDigits m k ≤ 2 ^ 24 :=
  nearestQuot_le (Nat.two_pow_pos _) (digits_bounds m k).1

theorem le_roundedDigits (m k : Nat) : lastPlace m k = 0 ∨ 2 ^ 23 ≤ roundedDigits m k :=
  (digits_bounds m k).2.imp_right (le_nearestQuot (Nat.two_pow_pos _))

/-- overflowBound as a magnitude in units of 2^(-149-k). -/
def overflowMag (k : Nat) : Nat := (2 ^ 25 - 1) * 2 ^ 252 * 2 ^ k

theorem overflowMag_pos (k : Nat) : 0 < overflowMag k := Nat.mul_pos (by decide) (Nat.two_pow_pos k)

theorem natCast_overflowMag (k : Nat) : (overflowMag k : Int) = overflowBound * 2 ^ k := by
  unfold overflowMag overflowBound
  push_cast
  norm_num

/-- The rounded magnitude is finite exactly below half a last place above the largest finite value. -/
theorem roundedPattern_lt_iff (m k : Nat) :
    roundedPattern m k < 0x7F800000 ↔ m < overflowMag k := by
  obtain ⟨hlt, hge⟩ := digits_bounds m k
  have hle := roundedDigits_le m k
  have hdig := le_roundedDigits m k
  have hpow (n : Nat) : 2 ^ (n + k) = 2 ^ n * 2 ^ k := pow_add 2 n k
  unfold roundedPattern overflowMag
  rcases Nat.lt_trichotomy (lastPlace m k) 253 with h | h | h
  · have : 2 ^ (lastPlace m k + k) ≤ 2 ^ (252 + k) := Nat.pow_le_pow_right (by decide) (by omega)
    have := hpow 252
    omega
  · have hiff := nearestQuot_lt_iff (m := m) (N := 2 ^ 24) (Nat.two_pow_pos (253 + k)) (by decide)
    rw [hpow 253] at hiff
    rw [roundedDigits, h, hpow 253]
    omega
  · have : 2 ^ (254 + k) ≤ 2 ^ (lastPlace m k + k) := Nat.pow_le_pow_right (by decide) (by omega)
    have := hpow 254
    omega

theorem fRound_overflow {m k : Nat} (neg : Bool) (h : overflowMag k ≤ m) :
    fRound neg m k = fInf neg := by
  have hpat := mt (roundedPattern_lt_iff m k).mp (Nat.not_lt.mpr h)
  rw [fRound_eq, Nat.min_eq_right (Nat.not_lt.mp hpat)]
  cases neg <;> rfl

/-- A magnitude of `r` units of the last place `q` has the pattern q x 2^23 + r. -/
theorem fUnits_of_pattern {x : F32} {q r : Nat} (hx : x.toNat % 2 ^ 31 = q * 2 ^ 23 + r)
    (hr : r ≤ 2 ^ 24) (hq : q = 0 ∨ 2 ^ 23 ≤ r) (hfin : q * 2 ^ 23 + r < 0x7F800000) :
    fExp x ≠ 255 ∧ fUnits x = r * 2 ^ q := by
  have hfields : fExp x = (q * 2 ^ 23 + r) / 2 ^ 23 ∧ fFrac x = r % 2 ^ 23 := by
    unfold fExp fFrac
    omega
  obtain ⟨hexp, hfrac⟩ := hfields
  refine ⟨by omega, ?_⟩
  unfold fUnits
  rcases Nat.lt_or_ge r (2 ^ 23) with hsub | hnorm
  · obtain rfl : q = 0 := by omega
    rw [if_pos (by omega), hfrac, Nat.mod_eq_of_lt hsub, pow_zero, mul_one]
  · rw [if_neg (by omega)]
    rcases Nat.eq_or_lt_of_le hr with rfl | hlt
    · rw [show fExp x - 1 = q + 1 by omega, hfrac, pow_succ]
      ring
    · rw [show fExp x - 1 = q by omega, show 2 ^ 23 + fFrac x = r by omega]

theorem fRound_finite {m k : Nat} (neg : Bool) (h : m < overflowMag k) :
    fFinite (fRound neg m k) = true
      ∧ fUnits (fRound neg m k) = roundedDigits m k * 2 ^ lastPlace m k := by
  have hpat := (roundedPattern_lt_iff m k).mpr h
  have hx : (fRound neg m k).toNat % 2 ^ 31 = lastPlace m k * 2 ^ 23 + roundedDigits m k := by
    rw [toNat_fRound, Nat.min_eq_left hpat.le]
    unfold roundedPattern at hpat ⊢
    split <;> omega
  rw [fFinite_eq_true_iff]
  exact fUnits_of_pattern hx (roundedDigits_le m k) (le_roundedDigits m k) hpat

/-- At every last place a binary32 is a multiple of it or has fewer than 24 digits above it. -/
theorem fUnits_dvd_or_lt (y : F32) (q : Nat) : 2 ^ q ∣ fUnits y ∨ fUnits y < 2 ^ 23 * 2 ^ q := by
  have hfrac : fFrac y < 2 ^ 23 := Nat.mod_lt _ (by decide)
  unfold fUnits
  split
  · exact .inr (hfrac.trans_le (Nat.le_mul_of_pos_right _ (Nat.two_pow_pos q)))
  · rcases Nat.lt_or_ge (fExp y - 1) q with hlt | hge
    · have hpow : 2 * 2 ^ (fExp y - 1) ≤ 2 ^ q :=
        (pow_succ' 2 _).symm.trans_le (Nat.pow_le_pow_right (by decide) hlt)
      have hdig : (2 ^ 23 + fFrac y) * 2 ^ (fExp y - 1) < 2 ^ 24 * 2 ^ (fExp y - 1) :=
        Nat.mul_lt_mul_of_pos_right (by omega) (Nat.two_pow_pos _)
      omega
    · exact .inl (Dvd.dvd.mul_left (pow_dvd_pow 2 hge) _)

/-- So is a value taken with either sign, a negative one being below every magnitude. -/
theorem fInt_dvd_or_lt (y : F32) (neg : Bool) (q : Nat) :
    (2 ^ q : Int) ∣ withSign neg (fInt y)
      ∨ (0 < q ∧ withSign neg (fInt y) < 2 ^ 23 * 2 ^ q) := by
  have hval : withSign neg (fInt y) = fUnits y ∨ withSign neg (fInt y) = -fUnits y := by
    unfold withSign fInt
    cases neg <;> cases fNeg y <;> simp
  rcases Nat.eq_zero_or_pos q with rfl | hq
  · exact .inl (one_dvd _)
  · rcases fUnits_dvd_or_lt y q with hdvd | hlt
    · have hdvd' : (2 ^ q : Int) ∣ fUnits y := by exact_mod_cast hdvd
      exact .inl (hval.elim (· ▸ hdvd') (· ▸ hdvd'.neg_right))
    · have hlt' : (fUnits y : Int) < 2 ^ 23 * 2 ^ q := by exact_mod_cast hlt
      exact .inr ⟨hq, by omega⟩

/-- Of the values on the grid of a binary32, none is nearer to `m` than the rounded magnitude. -/
theorem roundedDigits_nearest (m k : Nat) {v : Int}
    (hgrid : (2 ^ lastPlace m k : Int) ∣ v ∨ (0 < lastPlace m k ∧ v < 2 ^ 23 * 2 ^ lastPlace m k))
    (hne : v ≠ roundedDigits m k * 2 ^ lastPlace m k) :
    |(roundedDigits m k * 2 ^ lastPlace m k * 2 ^ k : Int) - m| ≤ |v * 2 ^ k - m|
      ∧ (|(roundedDigits m k * 2 ^ lastPlace m k * 2 ^ k : Int) - m| = |v * 2 ^ k - m| →
        roundedDigits m k % 2 = 0) := by
  have hD := Nat.two_pow_pos (lastPlace m k + k)
  have hscale (n : Int) : n * 2 ^ lastPlace m k * 2 ^ k = n * (2 ^ (lastPlace m k + k) : Nat) := by
    push_cast
    ring
  rw [hscale]
  rcases hgrid with ⟨j, rfl⟩ | ⟨hpos, hlt⟩
  · rw [mul_comm _ j] at hne ⊢
    rw [hscale]
    exact nearestQuot_nearest hD j fun h => hne (by rw [h]; rfl)
  · have hm : 2 ^ 23 * 2 ^ (lastPlace m k + k) ≤ m := (digits_bounds m k).2.resolve_left hpos.ne'
    have hlt' : v * 2 ^ k < (2 ^ 23 : Nat) * (2 ^ (lastPlace m k + k) : Nat) := by
      rw [← hscale]
      exact mul_lt_mul_of_pos_right hlt (by positivity)
    have h := nearestQuot_nearer hD hm _ hlt'
    exact ⟨h.le, fun heq => absurd heq h.ne⟩

/-- fRound answers the nearest finite value, ties to even, below the overflow bound (R8). -/
theorem fRound_isNearestEven {m k : Nat} (neg : Bool) (h : m < overflowMag k) :
    IsNearestEven (fRound neg m k) (withSign neg m) (2 ^ k) := by
  obtain ⟨hfin, hunits⟩ := fRound_finite neg h
  have hint : fInt (fRound neg m k) = withSign neg (roundedDigits m k * 2 ^ lastPlace m k) := by
    rw [fInt_eq_withSign, fNeg_fRound, hunits]
    push_cast
    rfl
  refine ⟨hfin, fun y _ hne => ?_⟩
  have hy : fInt y = withSign neg (withSign neg (fInt y)) := (withSign_withSign neg _).symm
  obtain ⟨hle, htie⟩ := roundedDigits_nearest m k (fInt_dvd_or_lt y neg _)
    (mt (congrArg (withSign neg)) (by rwa [← hy, ← hint]))
  rw [hint, hy, abs_withSign_mul_sub, abs_withSign_mul_sub]
  refine ⟨hle, fun heq => ?_⟩
  have heven := htie heq
  have hpat := (roundedPattern_lt_iff m k).mpr h
  have hmod : (fRound neg m k).toNat % 2 = 0 := by
    rw [toNat_fRound, Nat.min_eq_left hpat.le, roundedPattern]
    split <;> omega
  rw [BitVec.getLsbD, Nat.testBit_zero, hmod]
  rfl

/-- fRound is exact where the magnitude is a multiple of the result's last place. -/
theorem fInt_fRound_of_dvd {m k : Nat} (neg : Bool) (h : m < overflowMag k)
    (hdvd : 2 ^ (lastPlace m k + k) ∣ m) : fInt (fRound neg m k) * 2 ^ k = withSign neg m := by
  have hmul : roundedDigits m k * 2 ^ lastPlace m k * 2 ^ k = m := by
    rw [mul_assoc, ← pow_add]
    exact nearestQuot_mul_of_dvd (Nat.two_pow_pos _) hdvd
  have hmul' : (roundedDigits m k * 2 ^ lastPlace m k * 2 ^ k : Int) = m := by exact_mod_cast hmul
  rw [fInt_eq_withSign, fNeg_fRound, (fRound_finite neg h).2]
  cases neg <;> simp [withSign, hmul']

/-! ### float(q) -/

/-- The last place of q x 2^149 is at most 2^149 when |q| < 2^24. -/
theorem lastPlace_mul_two_pow_le {n : Nat} (j : Nat) (h : n < 2 ^ 24) : lastPlace (n * 2 ^ j) 0 ≤ j := by
  have hlt : n * 2 ^ j < 2 ^ (24 + j) := by
    rw [pow_add]
    exact Nat.mul_lt_mul_of_pos_right h (Nat.two_pow_pos j)
  have hlog : n * 2 ^ j ≠ 0 → (n * 2 ^ j).log2 < 24 + j := fun hne => (Nat.log2_lt hne).mpr hlt
  unfold lastPlace
  rcases Nat.eq_zero_or_pos (n * 2 ^ j) with hzero | hpos
  · simp [hzero]
  · have := hlog hpos.ne'
    omega

/-- Fewer than 24 digits above a last place within the range are kept as they are. -/
theorem fRound_mul_two_pow {n j : Nat} (neg : Bool) (hn : n < 2 ^ 24) (hj : j ≤ 252) :
    fFinite (fRound neg (n * 2 ^ j) 0) = true
      ∧ fInt (fRound neg (n * 2 ^ j) 0) = withSign neg (n * 2 ^ j : Nat) := by
  have hbound : n * 2 ^ j < overflowMag 0 := by
    unfold overflowMag
    have := Nat.mul_le_mul (Nat.le_of_lt hn) (Nat.pow_le_pow_right (n := 2) (by decide) hj)
    omega
  have hdvd : 2 ^ (lastPlace (n * 2 ^ j) 0 + 0) ∣ n * 2 ^ j :=
    Dvd.dvd.mul_left (pow_dvd_pow 2 (lastPlace_mul_two_pow_le j hn)) _
  have hexact := fInt_fRound_of_dvd neg hbound hdvd
  rw [pow_zero, mul_one] at hexact
  exact ⟨(fRound_finite neg hbound).1, hexact⟩

/-- Settles O35: the last place of q x 2^149 is at most 2^149 when |q| < 2^24, so nothing is rounded away. -/
theorem floatOfIntegerIsExact : Obligations.FloatOfIntegerIsExact := by
  intro q hq
  have hq' : q.natAbs < 2 ^ 24 := by
    rw [Int.abs_eq_natAbs] at hq
    omega
  obtain ⟨hfin, hint⟩ := fRound_mul_two_pow (j := 149) (decide (q < 0)) hq' (by decide)
  unfold fOfInt
  refine ⟨hfin, hint.trans ?_⟩
  rw [Nat.cast_mul, withSign_mul, withSign_natAbs, Nat.cast_pow, Nat.cast_ofNat]

/-! ### Sums -/

theorem fadd_of_not_fIsNaN {a b : F32} (ha : fIsNaN a = false) (hb : fIsNaN b = false) :
    fadd a b = fSum 0 a b := by simp [fadd, ha, hb]

theorem fsub_of_not_fIsNaN {a b : F32} (ha : fIsNaN a = false) (hb : fIsNaN b = false) :
    fsub a b = fSum 1 a (b ^^^ 0x80000000) := by simp [fsub, ha, hb]

/-- A finite sum is its exact value rounded once; its sign is free where it is zero. -/
theorem fSum_finite (op : Nat) {a b : F32} (ha : fFinite a = true) (hb : fFinite b = true) :
    ∃ neg, fSum op a b = fRound neg (fInt a + fInt b).natAbs 0
      ∧ withSign neg (fInt a + fInt b).natAbs = fInt a + fInt b := by
  simp only [fSum, not_fIsInf_of_fFinite ha, not_fIsInf_of_fFinite hb, Bool.false_eq_true, if_false]
  by_cases hzero : fInt a + fInt b = 0
  · refine ⟨fNeg a && fNeg b, ?_, ?_⟩
    · rw [if_pos hzero, hzero]
      cases fNeg a && fNeg b <;> rfl
    · rw [hzero]
      cases fNeg a && fNeg b <;> rfl
  · exact ⟨decide (fInt a + fInt b < 0), if_neg hzero, withSign_natAbs _⟩

/-- What a finite sum is: the nearest value below the bound, the infinity of its sign at it or beyond. -/
theorem fSum_rounds (op : Nat) {a b : F32} (ha : fFinite a = true) (hb : fFinite b = true) :
    (|fInt a + fInt b| < overflowBound → IsNearestEven (fSum op a b) (fInt a + fInt b) 1)
      ∧ (overflowBound ≤ fInt a + fInt b → fSum op a b = 0x7F800000)
      ∧ (fInt a + fInt b ≤ -overflowBound → fSum op a b = 0xFF800000) := by
  obtain ⟨neg, hsum, hsign⟩ := fSum_finite op ha hb
  rw [hsum]
  generalize fInt a + fInt b = n at *
  have hbound : (overflowMag 0 : Int) = overflowBound := natCast_overflowMag 0
  have hpos := overflowMag_pos 0
  rw [← hbound]
  refine ⟨fun h => ?_, fun h => ?_, fun h => ?_⟩
  · rw [Int.abs_eq_natAbs] at h
    have hnear := fRound_isNearestEven (k := 0) neg (Int.ofNat_lt.mp h)
    rwa [hsign] at hnear
  · cases neg with
    | false => exact fRound_overflow false (by omega)
    | true =>
      have : -(n.natAbs : Int) = n := hsign
      omega
  · cases neg with
    | false =>
      have : (n.natAbs : Int) = n := hsign
      omega
    | true => exact fRound_overflow true (by omega)

/-- An exact zero is +0.0 but for two negative zeros (IEEE 754). -/
theorem fSum_eq_zero (op : Nat) {a b : F32} (ha : fFinite a = true) (hb : fFinite b = true)
    (h : fInt a + fInt b = 0) :
    fSum op a b = if a = 0x80000000 ∧ b = 0x80000000 then 0x80000000 else 0x00000000 := by
  have hneg : (fNeg a && fNeg b) = true ↔ a = 0x80000000 ∧ b = 0x80000000 := by
    rw [eq_negZero_iff, eq_negZero_iff, Bool.and_eq_true]
    refine ⟨fun ⟨hna, hnb⟩ => ?_, fun ⟨⟨hna, _⟩, hnb, _⟩ => ⟨hna, hnb⟩⟩
    simp only [fInt, hna, hnb, if_true] at h
    exact ⟨⟨hna, by omega⟩, hnb, by omega⟩
  simp only [fSum, not_fIsInf_of_fFinite ha, not_fIsInf_of_fFinite hb, Bool.false_eq_true, if_false, h,
    if_true, fZero, hneg]

theorem fSum_isInfiniteSum (op : Nat) (a b : F32) : IsInfiniteSum (fSum op a b) a b := by
  unfold IsInfiniteSum fSum
  simp only [isInfinity_iff]
  refine ⟨fun ha hb => ?_, fun hb ha => ?_, fun ha hb hne => ?_⟩
  · rw [if_pos ha, if_neg]
    rcases hb with hb | rfl
    · simp [not_fIsInf_of_fFinite hb]
    · simp
  · simp [not_fIsInf_of_fFinite ha, hb]
  · have hsign : fNeg a ≠ fNeg b := fun h =>
      hne (by rw [eq_fInf_of_fIsInf ha, eq_fInf_of_fIsInf hb, h])
    simp [ha, hb, hsign, fIsNaN_fNaN]

/-! ### Products -/

theorem fmul_finite {a b : F32} (ha : fFinite a = true) (hb : fFinite b = true) :
    fmul a b = fRound (fNeg a != fNeg b) (fUnits a * fUnits b) 149 := by
  simp [fmul, not_fIsNaN_of_fFinite ha, not_fIsNaN_of_fFinite hb, not_fIsInf_of_fFinite ha,
    not_fIsInf_of_fFinite hb]

theorem fmul_infinite {a b : F32} (h : IsInfinity a ∨ IsInfinity b) (ha : fIsNaN a = false)
    (hb : fIsNaN b = false) :
    fmul a b = if fInt a = 0 ∨ fInt b = 0 then fNaN 2 a b else fInf (fNeg a != fNeg b) := by
  rw [isInfinity_iff, isInfinity_iff] at h
  simp [fmul, ha, hb, h, fInt_eq_zero_iff]

/-- The exact product has the exclusive or of the signs. -/
theorem fInt_mul_fInt (a b : F32) :
    fInt a * fInt b = withSign (fNeg a != fNeg b) (fUnits a * fUnits b : Nat) := by
  unfold fInt withSign
  cases fNeg a <;> cases fNeg b <;> simp

theorem fmul_rounds {a b : F32} (ha : fFinite a = true) (hb : fFinite b = true) :
    (|fInt a * fInt b| < overflowBound * 2 ^ 149 → IsNearestEven (fmul a b) (fInt a * fInt b) (2 ^ 149))
      ∧ (overflowBound * 2 ^ 149 ≤ |fInt a * fInt b| → IsInfinity (fmul a b)) := by
  have habs : |fInt a * fInt b| = (fUnits a * fUnits b : Nat) := by
    rw [fInt_mul_fInt]
    cases fNeg a != fNeg b <;> simp [withSign]
  rw [fmul_finite ha hb, habs, fInt_mul_fInt]
  rw [← natCast_overflowMag, Int.ofNat_lt, Int.ofNat_le]
  refine ⟨fRound_isNearestEven _, fun h => ?_⟩
  rw [fRound_overflow _ h]
  exact isInfinity_fInf _

theorem fNeg_fmul {a b : F32} (h : fIsNaN (fmul a b) = false) :
    fNeg (fmul a b) = (fNeg a != fNeg b) := by
  unfold fmul at h ⊢
  split
  case isTrue hnan => simp [hnan, fIsNaN_fNaN] at h
  case isFalse hnan =>
    split
    case isTrue hinf =>
      split
      case isTrue hzero => simp [hnan, hinf, hzero, fIsNaN_fNaN] at h
      case isFalse => exact fNeg_fInf _
    case isFalse => exact fNeg_fRound _ _ _

/-! ### IEEE 754 on every operand -/

theorem fsub_rounds {a b : F32} (ha : fFinite a = true) (hb : fFinite b = true) :
    (|fInt a - fInt b| < overflowBound → IsNearestEven (fsub a b) (fInt a - fInt b) 1)
      ∧ (overflowBound ≤ fInt a - fInt b → fsub a b = 0x7F800000)
      ∧ (fInt a - fInt b ≤ -overflowBound → fsub a b = 0xFF800000) := by
  have h := fSum_rounds 1 ha ((fFinite_flipSign b).trans hb)
  rwa [fInt_flipSign, ← sub_eq_add_neg,
    ← fsub_of_not_fIsNaN (not_fIsNaN_of_fFinite ha) (not_fIsNaN_of_fFinite hb)] at h

theorem fsub_eq_zero {a b : F32} (ha : fFinite a = true) (hb : fFinite b = true)
    (h : fInt a - fInt b = 0) :
    fsub a b = if a = 0x80000000 ∧ b = 0x00000000 then 0x80000000 else 0x00000000 := by
  have hflip : b ^^^ 0x80000000 = 0x80000000 ↔ b = 0x00000000 := BitVec.xor_left_inj (y := 0) 0x80000000
  have hzero := fSum_eq_zero 1 ha ((fFinite_flipSign b).trans hb) (by rw [fInt_flipSign]; omega)
  rw [fsub_of_not_fIsNaN (not_fIsNaN_of_fFinite ha) (not_fIsNaN_of_fFinite hb), hzero]
  simp only [hflip]

/-- A NaN operand gives a NaN in each operation (R149). -/
theorem fIsNaN_of_nan_operand {a b : F32} (h : fIsNaN a = true ∨ fIsNaN b = true) :
    fIsNaN (fadd a b) = true ∧ fIsNaN (fsub a b) = true ∧ fIsNaN (fmul a b) = true := by
  have hor : (fIsNaN a || fIsNaN b) = true := Bool.or_eq_true_iff.mpr h
  simp only [fadd, fsub, fmul, hor, if_true, fIsNaN_fNaN, and_self]

/-- The rule for infinite operands speaks of operands that are not NaN only. -/
theorem isInfiniteSum_of_eq_fSum {r a b : F32} (op : Nat)
    (h : fIsNaN a = false → fIsNaN b = false → r = fSum op a b) : IsInfiniteSum r a b := by
  obtain ⟨hleft, hright, hboth⟩ := fSum_isInfiniteSum op a b
  refine ⟨fun ha hb => ?_, fun hb ha => ?_, fun ha hb hne => ?_⟩
  · have hb' : fIsNaN b = false :=
      hb.elim not_fIsNaN_of_fFinite fun h => h ▸ not_fIsNaN_of_isInfinity ha
    exact (h (not_fIsNaN_of_isInfinity ha) hb').trans (hleft ha hb)
  · exact (h (not_fIsNaN_of_fFinite ha) (not_fIsNaN_of_isInfinity hb)).trans (hright hb ha)
  · rw [h (not_fIsNaN_of_isInfinity ha) (not_fIsNaN_of_isInfinity hb)]
    exact hboth ha hb hne

theorem fadd_isInfiniteSum (a b : F32) : IsInfiniteSum (fadd a b) a b :=
  isInfiniteSum_of_eq_fSum 0 fadd_of_not_fIsNaN

theorem fsub_isInfiniteSum (a b : F32) : IsInfiniteSum (fsub a b) a (b ^^^ 0x80000000) :=
  isInfiniteSum_of_eq_fSum 1 fun ha hb => fsub_of_not_fIsNaN ha (fIsNaN_flipSign b ▸ hb)

/-- Settles O34, by what a finite sum and product round to, the sign of a product, and the rules for infinities
and NaN. -/
theorem roundingIsNearestEven : Obligations.RoundingIsNearestEven := by
  intro a b
  refine ⟨fun ha hb => ?_, fun h => ?_, fadd_isInfiniteSum a b, fsub_isInfiniteSum a b,
    fun hinf ha hb => ?_, fIsNaN_of_nan_operand⟩
  · have hadd := fadd_of_not_fIsNaN (not_fIsNaN_of_fFinite ha) (not_fIsNaN_of_fFinite hb)
    obtain ⟨addNear, addPos, addNeg⟩ := hadd ▸ fSum_rounds 0 ha hb
    obtain ⟨subNear, subPos, subNeg⟩ := fsub_rounds ha hb
    obtain ⟨mulNear, mulInf⟩ := fmul_rounds ha hb
    exact ⟨addNear, subNear, mulNear, addPos, addNeg, subPos, subNeg, mulInf,
      hadd ▸ fSum_eq_zero 0 ha hb, fsub_eq_zero ha hb⟩
  · simp only [getLsbD_31_eq_fNeg, fNeg_fmul h]
  · rw [fmul_infinite hinf ha hb]
    refine ⟨fun ⟨hna, hnb⟩ => ?_, fun hzero => ?_⟩
    · rw [if_neg (not_or.mpr ⟨hna, hnb⟩)]
      exact isInfinity_fInf _
    · rw [if_pos hzero]
      exact fIsNaN_fNaN 2 a b

end Sys2Proof.Machine
end

section
/-! SUPPORT. The STATUS word as digits: each field of spec/10_state.md R23 is one digit of the sum that STATUS is. -/

namespace Sys2Proof.Machine

theorem phaseCode_le_three (p : Phase) : phaseCode p ≤ 3 := by cases p <;> decide

/-- The fields of STATUS do not overlap, so each can be read off the word. -/
theorem status_digits (s : State) :
    s.status.toNat % 4 = phaseCode s.phase ∧ s.status.toNat / 2 ^ 2 % 2 = s.done.toNat
      ∧ s.status.toNat / 2 ^ 3 % 2 = s.refused.toNat ∧ s.status.toNat / 2 ^ 4 % 2 = s.irq.toNat
      ∧ s.status.toNat % 256 < 32 ∧ s.status.toNat / 256 = s.faultCode.toNat := by
  have hphase := phaseCode_le_three s.phase
  have hdone := s.done.toNat_le
  have hrefused := s.refused.toNat_le
  have hirq := s.irq.toNat_le
  have hcode := s.faultCode.isLt
  have hsum : s.status.toNat = phaseCode s.phase + 4 * s.done.toNat + 8 * s.refused.toNat
      + 16 * s.irq.toNat + 256 * s.faultCode.toNat := by
    rw [State.status, BitVec.toNat_ofNat]
    exact Nat.mod_eq_of_lt (by omega)
  omega

theorem getLsbD_eq_decide_digit {w : Nat} (x : BitVec w) (b : Nat) :
    x.getLsbD b = decide (x.toNat / 2 ^ b % 2 = 1) := by
  rw [BitVec.getLsbD, Nat.testBit_eq_decide_div_mod_eq]

/-- A bit whose digit is a flag is that flag. -/
theorem getLsbD_of_digit {w : Nat} {x : BitVec w} {b : Nat} {flag : Bool}
    (h : x.toNat / 2 ^ b % 2 = flag.toNat) : x.getLsbD b = flag := by
  rw [getLsbD_eq_decide_digit, h]
  cases flag <;> rfl

theorem irq_eq_true_iff (s : State) :
    s.irq = true ↔ (s.done = true ∧ s.irqEn.getLsbD 0 = true)
      ∨ (s.phase = .faulted ∧ s.irqEn.getLsbD 1 = true) := by
  simp [State.irq]

/-- Settles O18: each field of STATUS is a digit of the sum of its fields. -/
theorem statusWord : Obligations.StatusWord := by
  intro s
  obtain ⟨hphase, hdone, hrefused, hirq, hlow, hhigh⟩ := status_digits s
  have hcode := s.faultCode.isLt
  refine ⟨?_, getLsbD_of_digit hdone, getLsbD_of_digit hrefused, ?_, fun b hb hb' => ?_, ?_,
    fun b hb => ?_⟩
  · rw [hphase]
    cases s.phase <;> rfl
  · rw [getLsbD_of_digit hirq, irq_eq_true_iff]
  · rw [getLsbD_eq_decide_digit, decide_eq_false_iff_not]
    interval_cases b <;> omega
  · apply BitVec.eq_of_toNat_eq
    rw [BitVec.toNat_setWidth, BitVec.toNat_ushiftRight, Nat.shiftRight_eq_div_pow]
    omega
  · have hlt : s.status.toNat < 2 ^ 16 := by omega
    exact Nat.testBit_lt_two_pow (hlt.trans_le (Nat.pow_le_pow_right (by decide) hb))

end Sys2Proof.Machine
end

section
/-! SUPPORT. What one host access can do (spec/46_commands.md R160, R169): `AccessEffect` lists it once for every
instruction that an access decodes to. -/

namespace Sys2Proof.Machine

/-- The effects of a host access whose instruction is `i`. -/
inductive AccessEffect (i : Instr) (s : State) : State → Prop
  /-- RESET, in every phase (R165). -/
  | reset (hi : i = .reset) : AccessEffect i s s.resetAll
  /-- A CONFIGURE whose checks all pass (R164). -/
  | configured (hi : i = .configure) (hp : s.phase = .unconfigured) (hc : s.configCheck = none) :
      AccessEffect i s (opConfigure s)
  /-- A DECODE_BLOCK that is accepted (R166). -/
  | started (hi : i = .decodeBlock) (hp : s.phase = .configured) :
      AccessEffect i s { s with done := false, phase := .busy }
  /-- A fault (spec/60_exceptions.md R186). -/
  | raised {t : State} (hp : s.phase ≠ .faulted) (hf : t.phase = .faulted)
      (ht : { t with
        phase := s.phase, faultCode := s.faultCode, faultInfo := s.faultInfo, port := s.port } = s) :
      AccessEffect i s t
  /-- A write of a config register, ATH or CIPHER, which only UNCONFIGURED takes. -/
  | configWritten {t : State} (hs : s.phase = .unconfigured) (ht : t.phase = .unconfigured) :
      AccessEffect i s t
  /-- A write of BLOCKBUF. -/
  | blockWritten (k : Nat) (v : Byte) : AccessEffect i s (s.storeByte (blockAddr k) v)
  /-- Everything else: the flags, IRQ_EN and the host's side at most. -/
  | minor {t : State}
      (ht : { t with done := s.done, refused := s.refused, irqEn := s.irqEn, port := s.port } = s) :
      AccessEffect i s t

theorem accessEffect_hostRead (i : Instr) (addr : Word) (ok always : Bool) (v : Word) (s : State) :
    AccessEffect i s (hostRead addr ok always v s) := by
  rcases hostRead_cases addr ok always v s with ⟨-, -, e⟩ | ⟨-, -, e⟩ | ⟨hp, -, e⟩ | ⟨hp, -, -, e⟩ |
    ⟨-, -, -, e⟩ <;> rw [e]
  · exact .minor rfl
  · exact .minor rfl
  · exact .raised hp rfl rfl
  · exact .raised (by rw [hp]; decide) rfl rfl
  · exact .minor rfl

/-- A write does what its store does where it is accepted: in UNCONFIGURED, or in CONFIGURED if it is not locked. -/
theorem accessEffect_hostWrite {i : Instr} (addr : Word) {ok locked : Bool} {store : State → State} {s : State}
    (hlocked : locked = true → s.phase = .unconfigured → (store s).phase = .unconfigured)
    (hfree : ok = true → locked = false → AccessEffect i s (store s)) :
    AccessEffect i s (hostWrite addr ok locked store s) := by
  rcases hostWrite_cases addr ok locked store s with ⟨-, e⟩ | ⟨hp, -, e⟩ | ⟨hp, -, e⟩ | ⟨hp, -, -, e⟩ |
    ⟨hp, hok, e⟩ <;> rw [e]
  · exact .minor rfl
  · exact .raised hp rfl rfl
  · exact .raised (by rw [hp]; decide) rfl rfl
  · exact .raised (by rw [hp]; decide) rfl rfl
  · cases locked with
    | false => exact hfree hok rfl
    | true =>
      have hu : s.phase = .unconfigured := by simpa using hp
      exact .configWritten hu (hlocked rfl hu)

/-- A command word does what its action does in UNCONFIGURED and CONFIGURED. -/
theorem accessEffect_hostCommand {i : Instr} {act : State → State} {s : State}
    (hact : s.phase = .unconfigured ∨ s.phase = .configured → AccessEffect i s (act s)) :
    AccessEffect i s (hostCommand act s) := by
  rcases hostCommand_cases act s with ⟨-, e⟩ | ⟨hp, e⟩ | ⟨hp, e⟩ <;> rw [e]
  · exact .minor rfl
  · exact .raised (by rw [hp]; decide) rfl rfl
  · exact hact hp

theorem ne_faulted_of_ready {p : Phase} (h : p = .unconfigured ∨ p = .configured) : p ≠ .faulted := by
  rcases h with rfl | rfl <;> decide

theorem setReg_phase (s : State) (r : Reg) (v : Word) : (s.setReg r v).phase = s.phase := by
  cases r <;> rfl

/-- The only register that a write can store to outside UNCONFIGURED is IRQ_EN. -/
theorem accessEffect_regWrite (i : Instr) (r : Reg) (v : Word) (s : State) :
    AccessEffect i s (hostWrite r.addr r.writable r.config (fun s => s.setReg r v) s) := by
  refine accessEffect_hostWrite _ (fun _ hp => (setReg_phase s r v).trans hp) fun hw hc => ?_
  have hr : r = .irqEn := by simpa [Reg.writable, hc] using hw
  subst hr
  exact .minor rfl

theorem accessEffect_configure (s : State) :
    s.phase = .unconfigured ∨ s.phase = .configured →
      AccessEffect .configure s
        (if s.phase = .unconfigured then opConfigure s else s.raise (.configLocked 0x00000002)) := by
  intro hp
  split
  case isFalse => exact .raised (ne_faulted_of_ready hp) rfl rfl
  case isTrue hu =>
    cases hc : s.configCheck with
    | none => exact .configured rfl hu hc
    | some n =>
      rw [opConfigure, hc]
      exact .raised (ne_faulted_of_ready hp) rfl rfl

theorem accessEffect_decodeBlock (s : State) :
    s.phase = .unconfigured ∨ s.phase = .configured →
      AccessEffect .decodeBlock s
        (if s.phase = .unconfigured then s.raise .notConfigured
          else { s with done := false, phase := .busy }) := by
  intro hp
  split
  case isTrue => exact .raised (ne_faulted_of_ready hp) rfl rfl
  case isFalse hu => exact .started rfl (hp.resolve_left hu)

theorem accessEffect_command (x : Word) {s t : State} (h : exec (decodeCommand x) s = .next t) :
    AccessEffect (decodeCommand x) s t := by
  unfold decodeCommand at h ⊢
  split at h <;> cases h
  · exact accessEffect_hostCommand fun _ => .minor rfl
  · exact .reset rfl
  · exact accessEffect_hostCommand (accessEffect_configure s)
  · exact accessEffect_hostCommand (accessEffect_decodeBlock s)
  · exact accessEffect_hostCommand fun _ => .minor rfl
  · exact accessEffect_hostCommand fun hp => .raised (ne_faulted_of_ready hp) rfl rfl

theorem accessEffect_badAccess (i : Instr) (a : Access) {s t : State}
    (h : exec (.badAccess a) s = .next t) : AccessEffect i s t := by
  rw [exec, execBadAccess] at h
  split at h <;> cases h
  · exact accessEffect_hostRead ..
  · exact accessEffect_hostWrite _ nofun nofun

/-- Every host access has one of the effects listed. -/
theorem accessEffect_of_exec (a : Access) {s t : State} (h : exec (decode (.access a)) s = .next t) :
    AccessEffect (decode (.access a)) s t := by
  change exec (decodeAccess a) s = .next t at h
  change AccessEffect (decodeAccess a) s t
  unfold decodeAccess at h ⊢
  split at h
  · exact accessEffect_badAccess _ a h
  · exact accessEffect_command _ h
  · split at h
    · cases h
      exact accessEffect_hostRead ..
    · exact accessEffect_badAccess _ a h
  · split at h
    · cases h
      exact accessEffect_regWrite ..
    · exact accessEffect_badAccess _ a h
  · cases h
    exact accessEffect_hostRead ..
  · cases h
    exact accessEffect_hostWrite _ (fun _ hp => hp) nofun
  · cases h
    exact accessEffect_hostRead ..
  · cases h
    exact accessEffect_hostWrite _ (fun _ hp => hp) nofun
  · cases h
    exact accessEffect_hostRead ..
  · cases h
    exact accessEffect_hostWrite _ (fun _ hp => hp) fun _ _ => .blockWritten _ _
  · cases h
    exact accessEffect_hostRead ..
  · exact accessEffect_badAccess _ a h

/-- A step is a host access or the decoder's turn. -/
theorem step_cases {s t : State} (h : step s = .next t) :
    (∃ a rest, s.nextInstr = some (decode (.access a))
        ∧ AccessEffect (decode (.access a)) (s.withInbox rest) t)
      ∨ (s.DecoderTurn ∧ ∃ l, t = decoderStep Config.params (s.withInbox l)) := by
  unfold step at h
  split at h
  case h_1 hin =>
    have hs : s.withInbox [] = s := by rw [State.withInbox, ← hin]
    cases h
    exact .inr ⟨.inl hin, [], by rw [hs]⟩
  case h_2 a rest hin =>
    exact .inl ⟨a, rest, by rw [State.nextInstr, hin], accessEffect_of_exec a h⟩
  case h_3 rest hin =>
    cases h
    exact .inr ⟨.inr ⟨rest, hin⟩, rest, rfl⟩

end Sys2Proof.Machine
end

section
/-! SUPPORT. The checks of CONFIGURE, and what a decoder step leaves alone; then the phase transitions and the
configuration that holds until RESET. -/

namespace Sys2Proof.Machine

/-! ### CONFIGURE -/

/-- The exponent field of VOLUME as spec/46_commands.md R163 check 7 writes it. -/
theorem toNat_exponent_field (x : F32) : ((x >>> 23) &&& 0xFF).toNat = fExp x := by
  rw [BitVec.toNat_and, BitVec.toNat_ushiftRight, Nat.shiftRight_eq_div_pow]
  exact Nat.and_two_pow_sub_one_eq_mod (x.toNat / 2 ^ 23) 8

theorem exponent_field_ne_of_fFinite {x : F32} (h : fFinite x = true) : (x >>> 23) &&& 0xFF ≠ 0xFF := by
  intro he
  have hexp : fExp x = 255 := by rw [← toNat_exponent_field, he]; rfl
  exact (fFinite_eq_true_iff x).mp h hexp

/-- CONFIGURE finds no failing check only where every condition of R163 holds. -/
theorem conditions_of_configCheck {s : State} (h : s.configCheck = none) : s.conditions := by
  unfold State.configCheck at h
  split_ifs at h with h1 h2 h3 h4 h5 h6 h7 h8
  intro n hn hn'
  interval_cases n
  exacts [h1, h2, h3, h4, h5, h6, exponent_field_ne_of_fFinite h7, h8]

theorem opConfigure_phase {s : State} (h : s.configCheck = none) : (opConfigure s).phase = .configured := by
  rw [opConfigure, h]

/-! ### The decoder's turn -/

/-- The beginning of a body: DESCRAMBLE, BLOCK_START and the sync field. -/
def bodyHead (s : State) : State := syncField (blockStart (descramble s))

/-- The stages of a body on the channels, from side information to synthesis. -/
def bodyStages (p : Config.Params) (s : State) : State :=
  forEach (List.range 8) (subframe p) (forEach (List.range s.channels.toNat) stage1 s)

/-- The end of a body: the datapath is unspecified after a fault, otherwise the block is done. -/
def bodyEnd (s : State) : State := if s.phase = .faulted then s.unspecified else blockDone s

/-- A body is its beginning, the noise fields, the stages, PCM_OUT and its end. -/
theorem decodeBody_eq (p : Config.Params) (s : State) :
    decodeBody p s = bodyEnd ((bodyStages p ((bodyHead s).andThen noiseField)).andThen pcmOut) := rfl

theorem bodyEnd_cases (s : State) :
    (s.phase = .faulted ∧ bodyEnd s = s.unspecified) ∨ (s.phase ≠ .faulted ∧ bodyEnd s = blockDone s) := by
  unfold bodyEnd
  split
  · exact .inl ⟨‹_›, rfl⟩
  · exact .inr ⟨‹_›, rfl⟩

/-- A body ends in FAULTED or in CONFIGURED (spec/46_commands.md R167). -/
theorem decodeBody_phase (p : Config.Params) (s : State) :
    (decodeBody p s).phase = .faulted ∨ (decodeBody p s).phase = .configured := by
  rw [decodeBody_eq]
  generalize (bodyStages p ((bodyHead s).andThen noiseField)).andThen pcmOut = t
  rcases bodyEnd_cases t with ⟨hp, e⟩ | ⟨-, e⟩ <;> rw [e]
  · exact .inl hp
  · exact .inr rfl

/-- The decoder's turn does nothing outside BUSY, and ends BUSY. -/
theorem decoderStep_cases (p : Config.Params) (s : State) :
    (s.phase ≠ .busy ∧ decoderStep p s = s) ∨ (s.phase = .busy ∧ decoderStep p s = decodeBody p s) := by
  unfold decoderStep
  split
  · exact .inr ⟨‹_›, rfl⟩
  · exact .inl ⟨‹_›, rfl⟩

/-- Settles O55, by the effects of a host access and the two ends of a decoder step. -/
theorem phaseTransitions : Obligations.PhaseTransitions := by
  intro s t h hne
  rcases step_cases h with ⟨a, rest, hi, he⟩ | ⟨hturn, l, rfl⟩
  · rw [hi]
    cases he with
    | reset ha => exact .inl ⟨congrArg some ha, rfl⟩
    | configured ha hp hc =>
      exact .inr (.inl ⟨congrArg some ha, hp, conditions_of_configCheck hc, opConfigure_phase hc⟩)
    | started ha hp => exact .inr (.inr (.inl ⟨congrArg some ha, hp, rfl⟩))
    | raised hp hf ht => exact .inr (.inr (.inr (.inr ⟨hp, hf⟩)))
    | configWritten hs ht => exact absurd (ht.trans hs.symm) hne
    | blockWritten k v => exact absurd rfl hne
    | minor ht => exact absurd (congrArg State.phase ht) hne
  · rcases decoderStep_cases Config.params (s.withInbox l) with ⟨hp, e⟩ | ⟨hp, e⟩ <;> rw [e] at hne ⊢
    · exact absurd rfl hne
    · have hbusy : s.phase = .busy := hp
      rcases decodeBody_phase Config.params (s.withInbox l) with hend | hend
      · exact .inr (.inr (.inr (.inr ⟨by rw [hbusy]; decide, hend⟩)))
      · exact .inr (.inr (.inr (.inl ⟨hturn, hbusy, hend⟩)))

/-! ### DESCRAMBLE -/

/-- The memory with byte `i` of the block substituted. -/
def substituted (m : Memory) (i : Nat) : Memory :=
  memWrite m (blockAddr i) (memRead m (cipherAddr (memRead m (blockAddr i)).toNat))

/-- The memory with the first `n` bytes of the block substituted (spec/40_bitreader.md R105). -/
def descrambled (n : Nat) (m : Memory) : Memory := (List.range n).foldl substituted m

theorem descramble_eq (s : State) :
    descramble s = { s with mem := descrambled s.blockSize.toNat s.mem } :=
  List.foldl_hom (fun m : Memory => ({ s with mem := m } : State)) (g₁ := substituted)
    (g₂ := fun t i => t.storeByte (blockAddr i) (t.cipher (t.blockByte i).toNat)) fun _ _ => rfl

/-- DESCRAMBLE keeps the canonical form and every byte below the block buffer. -/
theorem descrambled_keeps (n : Nat) {m : Memory} (hm : m.wf = true) :
    (descrambled n m).wf = true ∧ ∀ a, a < 0x10000 → memRead (descrambled n m) a = memRead m a := by
  refine foldl_keeps (P := fun m' : Memory => m'.wf = true ∧ ∀ a, a < 0x10000 → memRead m' a = memRead m a)
    (fun i _ m' h => ?_) m ⟨hm, fun _ _ => rfl⟩
  refine ⟨memWrite_wf _ _ h.1, fun a ha => ?_⟩
  rw [substituted, memRead_memWrite _ _ h.1, if_neg fun hi => ?_, h.2 a ha]
  exact absurd hi.1 (by unfold blockAddr; omega)

/-! ### The body of a DECODE_BLOCK -/

theorem stageStep_bodyStages (p : Config.Params) (s : State) : StageStep s (bodyStages p s) :=
  (StageStep.forEach (fun ch _ => stageStep_stage1 ch) s).trans
    (.forEach (fun sf _ => stageStep_subframe p sf) _)

theorem stageStep_bodyHead (s : State) : StageStep (descramble s) (bodyHead s) :=
  (stageStep_blockStart _).trans (stageStep_syncField _)

/-- Up to PCM_OUT, a body is DESCRAMBLE and operations of the stages. -/
theorem stageStep_beforePcm (p : Config.Params) (s : State) :
    StageStep (descramble s) (bodyStages p ((bodyHead s).andThen noiseField)) :=
  ((stageStep_bodyHead s).andThen stageStep_noiseField).trans (stageStep_bodyStages p _)

/-- The parts of the state that are the configuration of the stream: what the host wrote before CONFIGURE and what
CONFIGURE derived (spec/10_state.md sections 2 and 5). -/
structure SameConfiguration (s t : State) : Prop where
  config : ∀ r : Reg, r.config = true → t.reg r = s.reg r
  r09 : t.r09 = s.r09
  chType : t.chType = s.chType
  low : ∀ a, a < 0x10000 → memRead t.mem a = memRead s.mem a

theorem SameConfiguration.trans {s t u : State} (h : SameConfiguration s t) (h' : SameConfiguration t u) :
    SameConfiguration s u :=
  ⟨fun r hr => (h'.config r hr).trans (h.config r hr), h'.r09.trans h.r09, h'.chType.trans h.chType,
    fun a ha => (h'.low a ha).trans (h.low a ha)⟩

/-- A change of anything but the registers of the configuration and the memory. -/
theorem SameConfiguration.of_frame {s t : State}
    (h : { t with
      phase := s.phase, done := s.done, refused := s.refused, faultCode := s.faultCode,
      faultInfo := s.faultInfo, irqEn := s.irqEn, bitPos := s.bitPos, blocksDone := s.blocksDone,
      noise := s.noise, bitLimit := s.bitLimit, chans := s.chans, pcm := s.pcm, port := s.port } = s) :
    SameConfiguration s t := by
  refine ⟨fun r hr => ?_, ?_, ?_, fun a _ => ?_⟩ <;> rw [← h]
  cases r <;> cases hr <;> rfl

/-- A change of the memory that keeps the bytes below the block buffer. -/
theorem SameConfiguration.of_mem {s : State} {m : Memory}
    (h : ∀ a, a < 0x10000 → memRead m a = memRead s.mem a) : SameConfiguration s { s with mem := m } :=
  ⟨fun r _ => by cases r <;> rfl, rfl, rfl, h⟩

theorem StageStep.sameConfiguration {s t : State} (h : StageStep s t) : SameConfiguration s t :=
  .of_frame (by rw [← h.1])

theorem sameConfiguration_pcmOut (s : State) : SameConfiguration s (pcmOut s) := by
  rcases pcmOut_cases s with ⟨p, -, e⟩ | ⟨c, -, e⟩ <;> rw [e] <;> exact .of_frame rfl

theorem sameConfiguration_decodeBody (p : Config.Params) {s : State} (hm : s.mem.wf = true) :
    SameConfiguration s (decodeBody p s) := by
  have hdescramble : SameConfiguration s (descramble s) := by
    rw [descramble_eq]
    exact .of_mem (descrambled_keeps _ hm).2
  have hstages := hdescramble.trans (stageStep_beforePcm p s).sameConfiguration
  rw [decodeBody_eq]
  generalize bodyStages p ((bodyHead s).andThen noiseField) = u at hstages
  have hpcm : SameConfiguration s (u.andThen pcmOut) := by
    rcases u.andThen_cases pcmOut with ⟨-, e⟩ | ⟨-, e⟩ <;> rw [e]
    · exact hstages
    · exact hstages.trans (sameConfiguration_pcmOut u)
  rcases bodyEnd_cases (u.andThen pcmOut) with ⟨-, e⟩ | ⟨-, e⟩ <;> rw [e] <;> exact hpcm.trans (.of_frame rfl)

/-- Outside UNCONFIGURED a step other than RESET keeps the configuration. -/
theorem sameConfiguration_step {s t : State} (hm : s.mem.wf = true) (hp : s.phase ≠ .unconfigured)
    (h : step s = .next t) (hr : s.nextInstr ≠ some .reset) : SameConfiguration s t := by
  have hport (l : List Event) : SameConfiguration s (s.withInbox l) := .of_frame rfl
  rcases step_cases h with ⟨a, rest, hi, he⟩ | ⟨-, l, rfl⟩
  · refine (hport rest).trans ?_
    cases he with
    | reset ha => exact absurd (hi.trans (congrArg some ha)) hr
    | configured ha hu hc => exact absurd hu hp
    | started ha hc => exact .of_frame rfl
    | raised hu hf ht => exact .of_frame (by rw [← ht])
    | configWritten hu ht => exact absurd hu hp
    | blockWritten k v =>
      refine .of_mem fun a ha => ?_
      rw [State.withInbox_mem, memRead_memWrite _ _ hm, if_neg fun hk => absurd hk.1 (by unfold blockAddr; omega)]
    | minor ht => exact .of_frame (by rw [← ht])
  · refine (hport l).trans ?_
    rcases decoderStep_cases Config.params (s.withInbox l) with ⟨-, e⟩ | ⟨-, e⟩ <;> rw [e]
    · exact .of_frame rfl
    · exact sameConfiguration_decodeBody _ hm

/-- Settles O57: ATH and CIPHER stand below the block buffer. -/
theorem configurationHoldsUntilReset : Obligations.ConfigurationHoldsUntilReset := by
  intro s t hm hp h hr
  obtain ⟨hconfig, hr09, htype, hlow⟩ := sameConfiguration_step hm hp h hr
  exact ⟨hconfig, hr09, htype, fun i hi => hlow _ (by unfold athAddr; omega),
    fun i hi => hlow _ (by unfold cipherAddr; omega)⟩

end Sys2Proof.Machine
end

section
/-! SUPPORT. Two runs side by side. `Alike` says that two states agree in everything but the channels, `Live` names
parts of a channel, and `AgreeAt` says what two runs of a stage of one channel keep equal. Every stage of one channel
is treated once, for whatever parts the two runs start with in common: all of them for the privacy of channels (R58),
WAV3 alone for what carries from block to block (R50, R56). -/

namespace Sys2Proof.Machine

/-! ### Arrays that agree on some entries -/

section Entries

variable {w n : Nat} {P Q : Nat → Prop} {u u' v v' : Vector (BitVec w) n}

/-- The entries of two arrays are equal at the indices of a set. -/
def EntriesAgree (P : Nat → Prop) (v v' : Vector (BitVec w) n) : Prop := ∀ i, P i → entry v' i = entry v i

theorem EntriesAgree.mono (h : EntriesAgree P v v') (hQ : ∀ i, Q i → P i) : EntriesAgree Q v v' :=
  fun i hi => h i (hQ i hi)

theorem EntriesAgree.eq (h : EntriesAgree P v v') (hP : ∀ i, i < n → P i) : v' = v :=
  entry_ext fun i hi => h i (hP i hi)

/-- After the same values are written over a set `c` of indices, the arrays agree there too. -/
theorem EntriesAgree.overwrite {c : Nat → Prop} (h : EntriesAgree P v v')
    (hin : ∀ i, i < n → c i → entry u' i = entry u i)
    (hout : ∀ i, ¬c i → entry u i = entry v i ∧ entry u' i = entry v' i)
    (hQ : ∀ i, i < n → Q i → P i ∨ c i) : EntriesAgree Q u u' := by
  intro i hi
  by_cases hn : i < n
  case neg => rw [entry_outside _ (by omega), entry_outside _ (by omega)]
  case pos =>
    by_cases hc : c i
    · exact hin i hn hc
    · rw [(hout i hc).1, (hout i hc).2]
      exact h i ((hQ i hn hi).resolve_right hc)

theorem EntriesAgree.setIfInBounds (h : EntriesAgree P v v') (i : Nat) (x : BitVec w)
    (hQ : ∀ j, Q j → P j ∨ j = i) : EntriesAgree Q (v.setIfInBounds i x) (v'.setIfInBounds i x) := by
  refine h.overwrite (c := (· = i)) (fun j hj hc => ?_) (fun j hc => ?_) fun j _ => hQ j
  · rw [hc, entry_setIfInBounds_self _ _ (hc ▸ hj), entry_setIfInBounds_self _ _ (hc ▸ hj)]
  · exact ⟨entry_setIfInBounds_ne _ _ (Ne.symm hc), entry_setIfInBounds_ne _ _ (Ne.symm hc)⟩

theorem EntriesAgree.fillRange (h : EntriesAgree P v v') (lo cnt : Nat) {f f' : Nat → BitVec w}
    (hf : ∀ i, lo ≤ i → i < lo + cnt → f' i = f i)
    (hQ : ∀ i, i < n → Q i → P i ∨ lo ≤ i ∧ i < lo + cnt) :
    EntriesAgree Q (fillRange v lo cnt f) (fillRange v' lo cnt f') := by
  refine h.overwrite (c := fun i => lo ≤ i ∧ i < lo + cnt) (fun i hi hc => ?_) (fun i hc => ?_) hQ
  · rw [entry_fillRange, entry_fillRange, if_pos ⟨hc.1, hc.2, hi⟩, if_pos ⟨hc.1, hc.2, hi⟩]
    exact hf i hc.1 hc.2
  · rw [entry_fillRange, entry_fillRange, if_neg (fun h' => hc ⟨h'.1, h'.2.1⟩),
      if_neg (fun h' => hc ⟨h'.1, h'.2.1⟩)]
    exact ⟨rfl, rfl⟩

theorem EntriesAgree.writeRun (h : EntriesAgree P v v') (lo : Nat) (l : List (BitVec w))
    (hQ : ∀ i, i < n → Q i → P i ∨ lo ≤ i ∧ i < lo + l.length) :
    EntriesAgree Q (writeRun v lo l) (writeRun v' lo l) := by
  refine h.overwrite (c := fun i => lo ≤ i ∧ i < lo + l.length) (fun i hi hc => ?_) (fun i hc => ?_) hQ
  · rw [entry_writeRun, entry_writeRun, if_pos ⟨hc.1, hc.2, hi⟩, if_pos ⟨hc.1, hc.2, hi⟩]
  · rw [entry_writeRun, entry_writeRun, if_neg (fun h' => hc ⟨h'.1, h'.2.1⟩),
      if_neg (fun h' => hc ⟨h'.1, h'.2.1⟩)]
    exact ⟨rfl, rfl⟩

/-- Arrays with nothing in common known. -/
theorem entriesAgree_none (v v' : Vector (BitVec w) n) : EntriesAgree (fun _ => False) v v' := nofun

/-- A range that covers an array leaves nothing of it. -/
theorem fillRange_eq_of_cover (v v' : Vector (BitVec w) n) {cnt : Nat} (f : Nat → BitVec w) (hn : n ≤ cnt) :
    fillRange v' 0 cnt f = fillRange v 0 cnt f :=
  ((entriesAgree_none v v').fillRange (Q := fun _ => True) 0 cnt (fun _ _ _ => rfl)
    fun i _ _ => .inr ⟨Nat.zero_le i, by omega⟩).eq fun _ _ => trivial

/-- A run that covers an array leaves nothing of it. -/
theorem writeRun_eq_of_cover (v v' : Vector (BitVec w) n) {l : List (BitVec w)} (hn : n ≤ l.length) :
    writeRun v' 0 l = writeRun v 0 l :=
  ((entriesAgree_none v v').writeRun (Q := fun _ => True) 0 l
    fun i _ _ => .inr ⟨Nat.zero_le i, by omega⟩).eq fun _ _ => trivial

end Entries

/-! ### Loops of two runs -/

/-- A relation that each pass of a loop takes from its index to the next. -/
theorem foldl_range'_rel {β : Type} {R : Nat → β → β → Prop} {f : β → Nat → β} {lo n : Nat}
    (hf : ∀ i, lo ≤ i → i < lo + n → ∀ b b', R i b b' → R (i + 1) (f b i) (f b' i)) {b b' : β}
    (h : R lo b b') : R (lo + n) ((List.range' lo n).foldl f b) ((List.range' lo n).foldl f b') := by
  induction n generalizing lo b b' with
  | zero => exact h
  | succ n ih =>
    have hnext := ih (lo := lo + 1) (fun i hi hi' => hf i (by omega) (by omega))
      (hf lo (Nat.le_refl lo) (by omega) b b' h)
    rwa [Nat.add_assoc, Nat.add_comm 1 n] at hnext

/-- The same for a loop that a fault ends in both runs at once. -/
theorem forEach_range'_rel {R : Nat → State → State → Prop} {f : Nat → State → State} {lo n : Nat}
    (hphase : ∀ i s s', R i s s' → s'.phase = s.phase)
    (hfault : ∀ i s s', s.phase = .faulted → R i s s' → R (i + 1) s s')
    (hf : ∀ i, lo ≤ i → i < lo + n → ∀ s s', s.phase ≠ .faulted → R i s s' → R (i + 1) (f i s) (f i s'))
    {s s' : State} (h : R lo s s') :
    R (lo + n) (forEach (List.range' lo n) f s) (forEach (List.range' lo n) f s') := by
  refine foldl_range'_rel (f := fun s i => s.andThen (f i)) (fun i hi hi' b b' hb => ?_) h
  unfold State.andThen
  rw [hphase i b b' hb]
  split
  · exact hfault i b b' ‹_› hb
  · exact hf i hi hi' b b' ‹_› hb

/-! ### States that agree but for their channels -/

/-- Two states agree in everything but the channels. -/
def Alike (s s' : State) : Prop := { s' with chans := s.chans } = s

section Alike

variable {s s' : State}

/-- What does not depend on the channels is the same in both states. -/
theorem Alike.read {α : Sort*} (h : Alike s s') (f : State → α) (hf : ∀ t cs, f { t with chans := cs } = f t) :
    f s' = f s :=
  (hf s' s.chans).symm.trans (congrArg f h)

theorem Alike.phase (h : Alike s s') : s'.phase = s.phase :=
  h.read State.phase fun _ _ => rfl

theorem Alike.channels (h : Alike s s') : s'.channels = s.channels :=
  h.read State.channels fun _ _ => rfl

theorem Alike.r05 (h : Alike s s') : s'.r05 = s.r05 :=
  h.read State.r05 fun _ _ => rfl

theorem Alike.r06 (h : Alike s s') : s'.r06 = s.r06 :=
  h.read State.r06 fun _ _ => rfl

theorem Alike.r07 (h : Alike s s') : s'.r07 = s.r07 :=
  h.read State.r07 fun _ _ => rfl

theorem Alike.r08 (h : Alike s s') : s'.r08 = s.r08 :=
  h.read State.r08 fun _ _ => rfl

theorem Alike.r09 (h : Alike s s') : s'.r09 = s.r09 :=
  h.read State.r09 fun _ _ => rfl

theorem Alike.noise (h : Alike s s') : s'.noise = s.noise :=
  h.read State.noise fun _ _ => rfl

theorem Alike.ath (h : Alike s s') : s'.ath = s.ath :=
  h.read State.ath fun _ _ => rfl

theorem Alike.reader (h : Alike s s') : s'.reader = s.reader :=
  h.read State.reader fun _ _ => rfl

theorem Alike.peek (h : Alike s s') : s'.peek = s.peek :=
  h.read State.peek fun _ _ => rfl

theorem Alike.advance (h : Alike s s') (n : Nat) : Alike (s.advance n) (s'.advance n) :=
  congrArg (State.advance · n) h

theorem Alike.raise (h : Alike s s') (c : Cause) : Alike (s.raise c) (s'.raise c) :=
  congrArg (State.raise · c) h

theorem Alike.modChan (h : Alike s s') (ch : Nat) (f f' : Channel → Channel) :
    Alike (s.modChan ch f) (s'.modChan ch f') :=
  (congrArg (fun t : State => ({ t with chans := (s.modChan ch f).chans } : State)) h :)

end Alike

/-! ### Channels that agree on some parts -/

/-- A choice of parts of a channel: TYPE with COUNT, INT, RES, WAV1, WAV2 and WAV3 as wholes, entries of SF, BASE and
SPEC, and subframes of WAVE. -/
structure Live where
  kind : Prop
  sf : Nat → Prop
  int : Prop
  res : Prop
  base : Nat → Prop
  spec : Nat → Prop
  wav1 : Prop
  wav2 : Prop
  wav3 : Prop
  wave : Nat → Prop

/-- Every part. -/
def Live.all : Live :=
  ⟨True, fun _ => True, True, True, fun _ => True, fun _ => True, True, True, True, fun _ => True⟩

/-- No part. -/
def Live.none : Live :=
  ⟨False, fun _ => False, False, False, fun _ => False, fun _ => False, False, False, False, fun _ => False⟩

/-- The parts of the one are parts of the other. -/
structure Live.Le (L M : Live) : Prop where
  kind : L.kind → M.kind
  sf : ∀ i, L.sf i → M.sf i
  int : L.int → M.int
  res : L.res → M.res
  base : ∀ i, L.base i → M.base i
  spec : ∀ i, L.spec i → M.spec i
  wav1 : L.wav1 → M.wav1
  wav2 : L.wav2 → M.wav2
  wav3 : L.wav3 → M.wav3
  wave : ∀ f, L.wave f → M.wave f

theorem Live.Le.refl (L : Live) : L.Le L :=
  ⟨id, fun _ => id, id, id, fun _ => id, fun _ => id, id, id, id, fun _ => id⟩

theorem Live.none_le (L : Live) : Live.none.Le L :=
  ⟨nofun, nofun, nofun, nofun, nofun, nofun, nofun, nofun, nofun, nofun⟩

/-- Two channels agree on some parts. -/
structure Channel.AgreeOn (L : Live) (k k' : Channel) : Prop where
  kind : L.kind → k'.type = k.type ∧ k'.count = k.count
  sf : EntriesAgree L.sf k.sf k'.sf
  int : L.int → k'.int = k.int
  res : L.res → k'.res = k.res
  base : EntriesAgree L.base k.base k'.base
  spec : EntriesAgree L.spec k.spec k'.spec
  wav1 : L.wav1 → k'.wav1 = k.wav1
  wav2 : L.wav2 → k'.wav2 = k.wav2
  wav3 : L.wav3 → k'.wav3 = k.wav3
  wave : ∀ f, L.wave f → k'.wave[f]? = k.wave[f]?

theorem Channel.AgreeOn.refl (L : Live) (k : Channel) : k.AgreeOn L k :=
  ⟨fun _ => ⟨rfl, rfl⟩, fun _ _ => rfl, fun _ => rfl, fun _ => rfl, fun _ _ => rfl, fun _ _ => rfl,
    fun _ => rfl, fun _ => rfl, fun _ => rfl, fun _ _ => rfl⟩

theorem Channel.AgreeOn.of_none (k k' : Channel) : k.AgreeOn Live.none k' :=
  ⟨nofun, nofun, nofun, nofun, nofun, nofun, nofun, nofun, nofun, nofun⟩

theorem Channel.AgreeOn.mono {L M : Live} {k k' : Channel} (h : k.AgreeOn M k') (hle : L.Le M) :
    k.AgreeOn L k' where
  kind := h.kind ∘ hle.kind
  sf := h.sf.mono hle.sf
  int := h.int ∘ hle.int
  res := h.res ∘ hle.res
  base := h.base.mono hle.base
  spec := h.spec.mono hle.spec
  wav1 := h.wav1 ∘ hle.wav1
  wav2 := h.wav2 ∘ hle.wav2
  wav3 := h.wav3 ∘ hle.wav3
  wave f hf := h.wave f (hle.wave f hf)

/-- Channels that agree on every part are equal. -/
theorem Channel.AgreeOn.eq_of_all {k k' : Channel} (h : k.AgreeOn Live.all k') : k' = k := by
  obtain ⟨htype, hcount⟩ := h.kind trivial
  have hsf := h.sf.eq fun _ _ => trivial
  have hint := h.int trivial
  have hres := h.res trivial
  have hbase := h.base.eq fun _ _ => trivial
  have hspec := h.spec.eq fun _ _ => trivial
  have hwav1 := h.wav1 trivial
  have hwav2 := h.wav2 trivial
  have hwav3 := h.wav3 trivial
  have hwave : k'.wave = k.wave :=
    Vector.ext fun f hf => by simpa [hf] using h.wave f trivial
  cases k
  cases k'
  simp_all

/-! ### Two runs of a stage of one channel -/

/-- Two runs of a stage of channel `ch`, begun with the other channels `o` and `o'`: the states agree in everything
but the channels, `ch` agrees on the parts `L`, and neither run has changed another channel. -/
structure AgreeAt (ch : Nat) (L : Live) (o o' : Nat → Channel) (s s' : State) : Prop where
  alike : Alike s s'
  live : (s.chan ch).AgreeOn L (s'.chan ch)
  others : ∀ c, c ≠ ch → s.chan c = o c
  others' : ∀ c, c ≠ ch → s'.chan c = o' c

/-- The same where a fault may have ended both runs: then they agree on the parts `L` only, otherwise on `M`. -/
def AgreeUpTo (ch : Nat) (L M : Live) (o o' : Nat → Channel) (s s' : State) : Prop :=
  AgreeAt ch L o o' s s' ∧ (s.phase ≠ .faulted → AgreeAt ch M o o' s s')

section Runs

variable {ch : Nat} {L M N : Live} {o o' : Nat → Channel} {s s' : State}

theorem AgreeAt.mono (h : AgreeAt ch M o o' s s') (hle : L.Le M) : AgreeAt ch L o o' s s' :=
  { h with live := h.live.mono hle }

theorem AgreeAt.advance (h : AgreeAt ch L o o' s s') (n : Nat) :
    AgreeAt ch L o o' (s.advance n) (s'.advance n) :=
  ⟨h.alike.advance n, h.live, h.others, h.others'⟩

theorem AgreeAt.raise (h : AgreeAt ch L o o' s s') (c : Cause) :
    AgreeAt ch L o o' (s.raise c) (s'.raise c) :=
  ⟨h.alike.raise c, h.live, h.others, h.others'⟩

/-- Beyond channel 15 nothing is changed, and both runs read the reset channel. -/
theorem AgreeAt.modChan (h : AgreeAt ch L o o' s s') {f f' : Channel → Channel}
    (hf : (f (s.chan ch)).AgreeOn M (f' (s'.chan ch))) :
    AgreeAt ch M o o' (s.modChan ch f) (s'.modChan ch f') where
  alike := h.alike.modChan ch f f'
  live := by
    by_cases hc : ch < 16
    · rwa [State.chan_modChan_self _ _ hc, State.chan_modChan_self _ _ hc]
    · rw [State.chan_outside _ (by omega), State.chan_outside _ (by omega)]
      exact .refl M _
  others c hc := (State.chan_modChan_ne s f hc).trans (h.others c hc)
  others' c hc := (State.chan_modChan_ne s' f' hc).trans (h.others' c hc)

theorem AgreeAt.upTo (h : AgreeAt ch M o o' s s') (hle : L.Le M) : AgreeUpTo ch L M o o' s s' :=
  ⟨h.mono hle, fun _ => h⟩

/-- Both runs record the same fault. -/
theorem AgreeAt.raise_upTo (h : AgreeAt ch N o o' s s') (c : Cause) (hle : L.Le N) :
    AgreeUpTo ch L M o o' (s.raise c) (s'.raise c) :=
  ⟨(h.raise c).mono hle, fun hp => absurd rfl hp⟩

theorem AgreeUpTo.andThen {f : State → State} (h : AgreeUpTo ch L M o o' s s')
    (hf : s.phase ≠ .faulted → AgreeAt ch M o o' s s' → AgreeUpTo ch L N o o' (f s) (f s')) :
    AgreeUpTo ch L N o o' (s.andThen f) (s'.andThen f) := by
  obtain ⟨hbase, hlive⟩ := h
  unfold State.andThen
  rw [hbase.alike.phase]
  split
  case isTrue hp => exact ⟨hbase, fun hp' => absurd hp hp'⟩
  case isFalse hp => exact hf hp (hlive hp)

/-! ### Stage 1 -/

theorem StageStep.r06 (h : StageStep s s') : s'.r06 = s.r06 := (congrArg State.r06 h.1 :)

theorem StageStep.r07 (h : StageStep s s') : s'.r07 = s.r07 := (congrArg State.r07 h.1 :)

theorem StageStep.r09 (h : StageStep s s') : s'.r09 = s.r09 := (congrArg State.r09 h.1 :)

/-- The parts, with the first `n` scale factors. -/
def Live.withSf (L : Live) (n : Nat) : Live := { L with sf := fun i => L.sf i ∨ i < n }

/-- The parts, with what the extension field of a channel of a type stores: INT for type 2, `g` scale factors from
`lo` on for the others. -/
def Live.extended (L : Live) (type : ChanType) (lo g : Nat) : Live :=
  { L with
    sf := fun i => L.sf i ∨ type ≠ .secondary ∧ lo ≤ i ∧ i < lo + g
    int := L.int ∨ type = .secondary }

/-- The parts, with the resolutions and the first `n` base multipliers. -/
def Live.derived (L : Live) (n : Nat) : Live := { L with res := True, base := fun i => L.base i ∨ i < n }

/-- The parts, with what STAGE1 stores for a channel of a type and a count. -/
def Live.decoded (L : Live) (type : ChanType) (count lo g : Nat) : Live :=
  ((L.withSf count).extended type lo g).derived count

theorem Live.le_withSf (L : Live) (n : Nat) : L.Le (L.withSf n) :=
  { Live.Le.refl L with sf := fun _ => .inl }

theorem Live.le_decoded (L : Live) (type : ChanType) (count lo g : Nat) : L.Le (L.decoded type count lo g) :=
  { Live.Le.refl L with
    sf := fun _ h => .inl (.inl h)
    int := .inl
    res := fun _ => trivial
    base := fun _ => .inl }

theorem fieldList_length (rd : Nat → Nat → Nat) (n count : Nat) : (fieldList rd n count).length = count := by
  simp [fieldList]

/-- A change of SF that makes the first `n` scale factors agree. -/
theorem AgreeAt.modSf (h : AgreeAt ch L o o' s s') {n : Nat}
    {g : Vector (BitVec 6) 128 → Vector (BitVec 6) 128}
    (hg : EntriesAgree (L.withSf n).sf (g (s.chan ch).sf) (g (s'.chan ch).sf)) :
    AgreeAt ch (L.withSf n) o o' (s.modChan ch fun k => { k with sf := g k.sf })
      (s'.modChan ch fun k => { k with sf := g k.sf }) :=
  h.modChan { h.live with sf := hg }

theorem agreeAt_opSfZero (h : AgreeAt ch L o o' s s') (n : Nat) :
    AgreeAt ch (L.withSf n) o o' (opSfZero ch s) (opSfZero ch s') :=
  h.modSf (g := fun v => fillRange v 0 128 fun _ => 0)
    (h.live.sf.fillRange 0 128 (fun _ _ _ => rfl) fun i hi _ => .inr ⟨Nat.zero_le i, by omega⟩)

theorem agreeAt_opSfRaw (h : AgreeAt ch L o o' s s') (vs : List (BitVec 6)) :
    AgreeAt ch (L.withSf vs.length) o o' (opSfRaw ch vs s) (opSfRaw ch vs s') :=
  (h.advance _).modSf (g := fun v => writeRun v 0 vs)
    (h.live.sf.writeRun 0 vs fun i _ hi => hi.imp_right fun hi => ⟨Nat.zero_le i, by omega⟩)

theorem agreeAt_opSfFirst (h : AgreeAt ch L o o' s s') (v : BitVec 6) :
    AgreeAt ch (L.withSf 1) o o' (opSfFirst ch v s) (opSfFirst ch v s') :=
  (h.advance 6).modSf (g := fun u => u.setIfInBounds 0 v)
    (h.live.sf.setIfInBounds 0 v fun i hi => hi.imp_right fun hi => by omega)

/-- One more scale factor is stored. -/
theorem entriesAgree_withSf_succ {v v' : Vector (BitVec 6) 128} {i : Nat}
    (h : EntriesAgree (L.withSf i).sf v v') (x : BitVec 6) :
    EntriesAgree (L.withSf (i + 1)).sf (v.setIfInBounds i x) (v'.setIfInBounds i x) := by
  refine h.setIfInBounds i x fun j hj => ?_
  rcases hj with hj | hj
  · exact .inl (.inl hj)
  · rcases Nat.lt_succ_iff_lt_or_eq.mp hj with hj | hj
    · exact .inl (.inr hj)
    · exact .inr hj

theorem agreeUpTo_deltaStep {i : Nat} (hi : 1 ≤ i) (m : Nat) (h : AgreeAt ch (L.withSf i) o o' s s') :
    AgreeUpTo ch L (L.withSf (i + 1)) o o' (deltaStep ch m i s) (deltaStep ch m i s') := by
  have hprev : entry (s'.chan ch).sf (i - 1) = entry (s.chan ch).sf (i - 1) :=
    h.live.sf (i - 1) (.inr (by omega))
  unfold deltaStep opSfEscape opSfDelta
  rw [h.alike.peek, h.alike.reader, hprev]
  split
  · exact AgreeAt.upTo ((h.advance _).modChan { h.live with sf := entriesAgree_withSf_succ h.live.sf _ })
      (L.le_withSf _)
  · simp only
    split
    · exact (h.advance m).raise_upTo _ (L.le_withSf _)
    · exact AgreeAt.upTo ((h.advance m).modChan { h.live with sf := entriesAgree_withSf_succ h.live.sf _ })
        (L.le_withSf _)

theorem agreeUpTo_sfDeltaRun (h : AgreeAt ch L o o' s s') (hk : L.kind) (m : Nat) :
    AgreeUpTo ch L (L.withSf (s.chan ch).count) o o' (sfDeltaRun ch m s) (sfDeltaRun ch m s') := by
  unfold sfDeltaRun
  rw [h.alike.peek, (h.live.kind hk).2]
  generalize (s.chan ch).count = count
  have hfirst := (agreeAt_opSfFirst h (BitVec.ofNat 6 (s.peek 6))).upTo (L.le_withSf 1)
  have hrun := forEach_range'_rel (R := fun i => AgreeUpTo ch L (L.withSf i) o o')
    (f := deltaStep ch m) (n := count - 1) (fun i t t' ht => ht.1.alike.phase)
    (fun i t t' hp ht => ⟨ht.1, fun hp' => absurd hp hp'⟩)
    (fun i hi _ t t' hp ht => agreeUpTo_deltaStep hi m (ht.2 hp)) hfirst
  refine ⟨hrun.1, fun hp => (hrun.2 hp).mono { Live.Le.refl L with sf := fun i hi => ?_ }⟩
  exact hi.imp_right fun hi => by omega

theorem agreeUpTo_scaleFactors (h : AgreeAt ch L o o' s s') (hk : L.kind) :
    AgreeUpTo ch L (L.withSf (s.chan ch).count) o o' (scaleFactors ch s) (scaleFactors ch s') := by
  have hmode : AgreeAt ch L o o' (opSfmode s) (opSfmode s') := h.advance 3
  have hcount : ((opSfmode s').chan ch).count = ((opSfmode s).chan ch).count := (h.live.kind hk).2
  unfold scaleFactors
  simp only
  rw [h.alike.peek, hmode.alike.reader, hcount]
  split
  · exact (agreeAt_opSfZero hmode _).upTo (L.le_withSf _)
  · split
    · have hraw := agreeAt_opSfRaw hmode (fieldList (opSfmode s).reader 6 ((opSfmode s).chan ch).count)
      rw [fieldList_length] at hraw
      exact hraw.upTo (L.le_withSf _)
    · exact agreeUpTo_sfDeltaRun hmode hk _

/-- The extension field: INT as a whole, or the scale factors of the HFR groups. -/
theorem agreeAt_extension (h : AgreeAt ch L o o' s s') (hk : L.kind) :
    AgreeAt ch (L.extended (s.chan ch).type (s.r06.toNat + s.r07.toNat) s.r09.toNat) o o'
      (extension ch s) (extension ch s') := by
  have hsf : (s.chan ch).type = .secondary → ∀ i,
      (L.extended (s.chan ch).type (s.r06.toNat + s.r07.toNat) s.r09.toNat).sf i → L.sf i :=
    fun hs i hi => hi.resolve_right fun hi => hi.1 hs
  unfold extension intensityField
  rw [h.alike.peek, h.alike.reader, h.alike.r09, (h.live.kind hk).1]
  split
  case isTrue hs =>
    split
    · exact (h.advance _).modChan
        { h.live with
          sf := h.live.sf.mono (hsf hs)
          int := fun _ => writeRun_eq_of_cover _ _ (by rw [fieldList_length]) }
    · exact h.modChan
        { h.live with
          sf := h.live.sf.mono (hsf hs)
          int := fun _ => fillRange_eq_of_cover _ _ _ (Nat.le_refl 8) }
  case isFalse hs =>
    unfold opHfrScale
    rw [h.alike.r06, h.alike.r07]
    refine (h.advance _).modChan
      { h.live with sf := h.live.sf.writeRun _ _ fun i _ hi => ?_, int := fun hi => ?_ }
    · rw [fieldList_length]
      exact hi.imp_right fun hi => hi.2
    · exact h.live.int (hi.resolve_right hs)

/-- The resolutions are written as a whole, from the scale factors below COUNT. -/
theorem resArray_congr {k k' : Channel} (hs : Alike s s') (hcount : k'.count = k.count)
    (hsf : EntriesAgree (· < k.count) k.sf k'.sf) : resArray s' k' = resArray s k := by
  unfold resArray
  rw [hcount, hs.ath, hs.noise]
  have hlow := (entriesAgree_none k.res k'.res).fillRange (Q := (· < k.count)) 0 k.count
    (f := fun i => resolution (s.ath i) s.noise i (entry k.sf i))
    (f' := fun i => resolution (s.ath i) s.noise i (entry k'.sf i))
    (fun i _ hi => by rw [hsf i (by omega)]) fun i _ hi => .inr ⟨Nat.zero_le i, by omega⟩
  refine EntriesAgree.eq (P := fun _ => True) ?_ fun _ _ => trivial
  exact hlow.fillRange k.count (128 - k.count) (fun _ _ _ => rfl) fun i hi _ => by omega

theorem agreeAt_derive (h : AgreeAt ch L o o' s s') (hk : L.kind)
    (hsf : ∀ i, i < (s.chan ch).count → L.sf i) :
    AgreeAt ch (L.derived (s.chan ch).count) o o' (derive ch s) (derive ch s') := by
  have hcount := (h.live.kind hk).2
  have hres : resArray s' (s'.chan ch) = resArray s (s.chan ch) :=
    resArray_congr h.alike hcount (h.live.sf.mono hsf)
  refine h.modChan { h.live with res := fun _ => hres, base := ?_ }
  show EntriesAgree _ (baseArray (s.chan ch) (resArray s (s.chan ch)))
    (baseArray (s'.chan ch) (resArray s' (s'.chan ch)))
  unfold baseArray
  rw [hres, hcount]
  refine h.live.base.fillRange 0 _ (fun i _ hi => ?_) fun i _ hi =>
    hi.imp_right fun hi => ⟨Nat.zero_le i, by omega⟩
  rw [h.live.sf i (hsf i (by omega))]

theorem agreeUpTo_stage1 (h : AgreeAt ch L o o' s s') (hk : L.kind) :
    AgreeUpTo ch L
      (L.decoded (s.chan ch).type (s.chan ch).count (s.r06.toNat + s.r07.toNat) s.r09.toNat) o o'
      (stage1 ch s) (stage1 ch s') := by
  unfold stage1
  refine ((agreeUpTo_scaleFactors h hk).andThen
    (N := (L.withSf (s.chan ch).count).extended (s.chan ch).type (s.r06.toNat + s.r07.toNat) s.r09.toNat)
    fun _ ht => ?_).andThen fun _ ht => ?_
  · have hstep := stageStep_scaleFactors ch s
    have hext := agreeAt_extension ht hk
    rw [(hstep.2.1 ch).1, hstep.r06,
      hstep.r07,
      hstep.r09] at hext
    exact hext.upTo { Live.Le.refl L with sf := fun _ h => .inl (.inl h), int := .inl }
  · have hstep := (stageStep_scaleFactors ch s).andThen (stageStep_extension ch)
    have hcount : (((scaleFactors ch s).andThen (extension ch)).chan ch).count = (s.chan ch).count :=
      (hstep.2.1 ch).2
    have hder := agreeAt_derive ht hk (by rw [hcount]; exact fun i hi => .inl (.inr hi))
    rw [hcount] at hder
    exact hder.upTo (L.le_decoded _ _ _ _)

end Runs

end Sys2Proof.Machine
end

section
/-! SUPPORT. Two runs of DEQUANT, HFR, SYNTH and INTENSITY, and the privacy of channels (spec/10_state.md R58). -/

namespace Sys2Proof.Machine

section Runs

variable {ch : Nat} {L : Live} {o o' : Nat → Channel} {s s' : State}

/-- The same value is stored in an entry of SPEC in both runs. -/
theorem AgreeAt.setSpec (h : AgreeAt ch L o o' s s') (i : Nat) (x : F32) :
    AgreeAt ch L o o' (s.modChan ch fun k => { k with spec := k.spec.setIfInBounds i x })
      (s'.modChan ch fun k => { k with spec := k.spec.setIfInBounds i x }) :=
  h.modChan { h.live with spec := h.live.spec.setIfInBounds i x fun _ => .inl }

/-! ### Stage 2 -/

/-- The parts, with the whole spectrum. -/
def Live.withSpec (L : Live) : Live := { L with spec := fun _ => True }

theorem stageStep_dequantCodes (ch : Nat) (s : State) : StageStep s (dequantCodes ch s) :=
  .foldl (fun _ _ u => stageStep_opCode _ _ _ _ u) s

/-- One more coefficient is stored. -/
theorem agreeAt_dequantStep {i : Nat} (hres : L.res) (hbase : L.base i)
    (h : AgreeAt ch { L with spec := fun j => L.spec j ∨ j < i } o o' s s') :
    AgreeAt ch { L with spec := fun j => L.spec j ∨ j < i + 1 } o o' (dequantStep ch i s)
      (dequantStep ch i s') := by
  unfold dequantStep opCode
  simp only
  rw [h.alike.peek, h.live.res hres]
  refine (h.advance _).modChan { h.live with spec := ?_ }
  show EntriesAgree _ ((s.chan ch).spec.setIfInBounds i (fmul (entry (s.chan ch).base i) _))
    ((s'.chan ch).spec.setIfInBounds i (fmul (entry (s'.chan ch).base i) _))
  rw [h.live.base i hbase]
  refine h.live.spec.setIfInBounds i _ fun j hj => ?_
  rcases hj with hj | hj
  · exact .inl (.inl hj)
  · exact (Nat.lt_succ_iff_lt_or_eq.mp hj).imp_left .inr

theorem agreeAt_dequantCodes (h : AgreeAt ch L o o' s s') (hk : L.kind) (hres : L.res)
    (hbase : ∀ i, i < (s.chan ch).count → L.base i) :
    AgreeAt ch { L with spec := fun j => L.spec j ∨ j < (s.chan ch).count } o o' (dequantCodes ch s)
      (dequantCodes ch s') := by
  have hrun := foldl_range'_rel (lo := 0) (n := (s.chan ch).count)
    (R := fun i => AgreeAt ch { L with spec := fun j => L.spec j ∨ j < i } o o')
    (f := fun t i => dequantStep ch i t)
    (fun i _ hi t t' ht => agreeAt_dequantStep hres (hbase i (by omega)) ht)
    (h.mono { Live.Le.refl L with spec := fun _ hj => hj.resolve_right (Nat.not_lt_zero _) })
  rw [Nat.zero_add, ← List.range_eq_range'] at hrun
  unfold dequantCodes
  rwa [(h.live.kind hk).2]

theorem agreeAt_dequant (h : AgreeAt ch L o o' s s') (hk : L.kind) (hres : L.res)
    (hbase : ∀ i, i < (s.chan ch).count → L.base i) :
    AgreeAt ch L.withSpec o o' (dequant ch s) (dequant ch s') := by
  have hcodes := agreeAt_dequantCodes h hk hres hbase
  have hcount := ((stageStep_dequantCodes ch s).2.1 ch).2
  have hcount' := (hcodes.live.kind hk).2
  unfold dequant zeroFill
  refine hcodes.modChan { hcodes.live with spec := ?_ }
  simp only [hcount', hcount]
  refine hcodes.live.spec.fillRange _ _ (fun _ _ _ => rfl) fun i hi _ => ?_
  by_cases hlow : i < (s.chan ch).count
  · exact .inl (.inr hlow)
  · exact .inr (by omega)

/-! ### Stage 3 -/

/-- Two runs of the loops of HFR: the indices `k` and `l` are equal and the source index is below `c`. -/
structure HfrAgree (ch : Nat) (L : Live) (o o' : Nat → Channel) (c : Nat) (x x' : Nat × Int × State) :
    Prop where
  k : x'.1 = x.1
  l : x'.2.1 = x.2.1
  below : x.2.1 < c
  agree : AgreeAt ch L o o' x.2.2 x'.2.2

theorem hfrAgree_hfrGroup {c : Nat} (hsf : ∀ i, i < c → L.sf i) (hspec : ∀ i, L.spec i) (scale : BitVec 6)
    (j : Nat) : ∀ x x', HfrAgree ch L o o' c x x' →
      HfrAgree ch L o o' c (hfrGroup ch scale j x) (hfrGroup ch scale j x') := by
  induction j with
  | zero => exact fun _ _ h => h
  | succ j ih =>
    rintro ⟨k, l, s⟩ ⟨k', l', s'⟩ ⟨hk, hl, hlc, h⟩
    simp only at hk hl hlc h
    subst hk hl
    rw [hfrGroup, hfrGroup, h.alike.r05]
    split
    · exact ⟨rfl, rfl, hlc, h⟩
    · split
      · exact ⟨rfl, rfl, hlc, h.raise _⟩
      · simp only
        rw [h.live.sf l'.toNat (hsf _ (by omega)), h.live.spec l'.toNat (hspec _)]
        exact ih _ _ ⟨rfl, rfl, show l' - 1 < (c : Int) by omega, h.setSpec k' _⟩

theorem agreeAt_hfrLoop (h : AgreeAt ch L o o' s s') (hspec : ∀ i, L.spec i)
    (hsf : ∀ i, i < s.r06.toNat + s.r07.toNat + s.r09.toNat → L.sf i) :
    AgreeAt ch L o o' (hfrLoop ch s) (hfrLoop ch s') := by
  unfold hfrLoop
  rw [h.alike.r06, h.alike.r07, h.alike.r08, h.alike.r09]
  simp only
  generalize s.r06.toNat + s.r07.toNat = c at hsf
  rw [List.range_eq_range']
  have hinit : HfrAgree ch L o o' c (c, (c : Int) - 1, s) (c, (c : Int) - 1, s') :=
    ⟨rfl, rfl, show (c : Int) - 1 < c by omega, h⟩
  refine (foldl_range'_rel (lo := 0) (n := s.r09.toNat) (R := fun _ => HfrAgree ch L o o' c)
    (fun g _ hg x x' hx => ?_) hinit).agree
  rw [hx.agree.alike.phase, hx.agree.live.sf (c + g) (hsf _ (by omega))]
  split
  · exact hx
  · exact hfrAgree_hfrGroup (fun i hi => hsf i (by omega)) hspec _ _ x x' hx

theorem agreeAt_hfr (h : AgreeAt ch L o o' s s') (hk : L.kind) (hspec : ∀ i, L.spec i)
    (hsf : (s.chan ch).type ≠ .secondary → ∀ i, i < s.r06.toNat + s.r07.toNat + s.r09.toNat → L.sf i) :
    AgreeAt ch L o o' (hfr ch s) (hfr ch s') := by
  unfold hfr
  rw [(h.live.kind hk).1, h.alike.r08]
  split
  case isFalse => exact h
  case isTrue hc =>
    have hloop := agreeAt_hfrLoop h hspec (hsf hc.1)
    unfold State.andThen
    rw [hloop.alike.phase]
    split
    · exact hloop
    · exact hloop.setSpec 127 0

/-! ### Stage 5 -/

/-- One pass of the first level of BUTTERFLY (spec/44_synthesis.md R141). -/
def firstButterfly (src dst : Vector F32 128) (k : Nat) : Vector F32 128 :=
  (dst.setIfInBounds k (fadd (entry src (2 * k + 1)) (entry src (2 * k)))).setIfInBounds (64 + k)
    (fsub (entry src (2 * k)) (entry src (2 * k + 1)))

theorem butterflyLevel_zero (src dst : Vector F32 128) :
    butterflyLevel 0 src dst = (List.range' 0 64).foldl (firstButterfly src) dst := by
  have hloop : loop2 (2 ^ 0) (64 >>> 0) = (List.range' 0 64).map fun k => (0, k) := by
    simp [loop2, List.range_eq_range']
  simp only [butterflyLevel, hloop, List.foldl_map, Nat.zero_mul, Nat.zero_add]
  rfl

/-- The first level of BUTTERFLY writes every entry of its target. -/
theorem butterflyLevel_zero_eq (src dst dst' : Vector F32 128) :
    butterflyLevel 0 src dst' = butterflyLevel 0 src dst := by
  rw [butterflyLevel_zero, butterflyLevel_zero]
  have hrun := foldl_range'_rel (lo := 0) (n := 64) (f := firstButterfly src) (b := dst) (b' := dst')
    (R := fun i => EntriesAgree fun j => j < i ∨ 64 ≤ j ∧ j < 64 + i) (fun i _ hi v v' h => ?_)
    fun j hj => by omega
  · exact hrun.eq fun i hi => by omega
  · have hfirst := h.setIfInBounds (Q := fun j => (j < i ∨ 64 ≤ j ∧ j < 64 + i) ∨ j = i) i
      (fadd (entry src (2 * i + 1)) (entry src (2 * i))) fun _ => id
    exact hfirst.setIfInBounds (64 + i) _ fun j hj => by omega

/-- WAV1 is overwritten before it is read. -/
theorem transform_eq (p : Config.Params) (spec wav1 wav1' : Vector F32 128) :
    transform p spec wav1' = transform p spec wav1 := by
  have hlevels : passLevels butterflyLevel (spec, wav1') = passLevels butterflyLevel (spec, wav1) := by
    unfold passLevels
    rw [List.range_eq_range', List.range'_succ, List.foldl_cons, List.foldl_cons]
    simp only
    rw [butterflyLevel_zero_eq spec wav1 wav1']
  rw [transform, transform, hlevels]

/-- Two ranges that together cover an array leave nothing of it. -/
theorem fillRange_halves_eq (v v' : Vector F32 128) (f g : Nat → F32) :
    fillRange (fillRange v' 0 64 f) 64 64 g = fillRange (fillRange v 0 64 f) 64 64 g := by
  have hlow := (entriesAgree_none v v').fillRange (Q := (· < 64)) 0 64 (f := f) (fun _ _ _ => rfl)
    fun i _ hi => .inr ⟨Nat.zero_le i, by omega⟩
  exact (hlow.fillRange (Q := fun _ => True) 64 64 (fun _ _ _ => rfl) fun i hi _ => by omega).eq
    fun _ _ => trivial

/-- The parts, with what SYNTH stores in a subframe. -/
def Live.synthesized (L : Live) (sf : Nat) : Live :=
  { L with
    spec := fun _ => True, wav1 := True, wav2 := True, wav3 := True
    wave := fun f => L.wave f ∨ f = sf }

theorem synthChannel_agreeOn {k k' : Channel} (h : k.AgreeOn L k') (p : Config.Params) (sf : Nat)
    (hspec : ∀ i, L.spec i) (hwav3 : L.wav3) :
    (synthChannel p sf k).AgreeOn (L.synthesized sf) (synthChannel p sf k') := by
  have htransform : transform p k'.spec k'.wav1 = transform p k.spec k.wav1 := by
    rw [h.spec.eq fun i _ => hspec i, transform_eq p k.spec k.wav1]
  have h3 := h.wav3 hwav3
  have hout (w old old' : Vector F32 128) : outputWave p w k.wav3 old' = outputWave p w k.wav3 old :=
    fillRange_halves_eq _ _ _ _
  simp only [synthChannel, htransform, h3]
  generalize transform p k.spec k.wav1 = t
  exact
    { kind := h.kind, sf := h.sf, int := h.int, res := h.res, base := h.base
      spec := fun _ _ => rfl, wav1 := fun _ => rfl, wav2 := fun _ => rfl, wav3 := fun _ => rfl
      wave := fun f hf => by
        simp only [Vector.getElem?_setIfInBounds]
        rw [hout t.1 (k.wave[sf]?.getD (Vector.replicate 128 0))]
        split
        case isTrue => rfl
        case isFalse hne => exact h.wave f (hf.resolve_right (Ne.symm hne)) }

theorem agreeAt_synth (h : AgreeAt ch L o o' s s') (p : Config.Params) (sf : Nat)
    (hspec : ∀ i, L.spec i) (hwav3 : L.wav3) :
    AgreeAt ch (L.synthesized sf) o o' (synth p ch sf s) (synth p ch sf s') :=
  h.modChan (synthChannel_agreeOn h.live p sf hspec hwav3)

/-! ### Stage 4 -/

/-- Two states agree in everything but the channels, and each channel on some parts of its own. -/
structure AgreeAll (M : Nat → Live) (s s' : State) : Prop where
  alike : Alike s s'
  live : ∀ c, (s.chan c).AgreeOn (M c) (s'.chan c)

variable {M : Nat → Live}

/-- The same value is stored in an entry of SPEC of one channel in both runs. -/
theorem AgreeAll.setSpec (h : AgreeAll M s s') (c i : Nat) (x : F32) :
    AgreeAll M (s.modChan c fun k => { k with spec := k.spec.setIfInBounds i x })
      (s'.modChan c fun k => { k with spec := k.spec.setIfInBounds i x }) := by
  refine ⟨h.alike.modChan _ _ _, fun d => ?_⟩
  rw [State.chan_modChan, State.chan_modChan]
  split
  · exact { h.live d with spec := (h.live d).spec.setIfInBounds i x fun _ => .inl }
  · exact h.live d

theorem agreeAll_intensity (h : AgreeAll M s s') (p : Config.Params) (sf : Nat) (hk : (M ch).kind)
    (hspec : ∀ i, (M ch).spec i) (hint : (s.chan ch).type = .primary → (M (ch + 1)).int) :
    AgreeAll M (intensity p ch sf s) (intensity p ch sf s') := by
  unfold intensity
  simp only
  rw [((h.live ch).kind hk).1]
  by_cases hprimary : (s.chan ch).type = .primary
  case neg => rwa [if_neg (fun hc => hprimary hc.1), if_neg (fun hc => hprimary hc.1)]
  case pos =>
    rw [(h.live (ch + 1)).int (hint hprimary), h.alike.r05, h.alike.r06, h.alike.r07]
    split
    case isFalse => exact h
    case isTrue =>
      refine foldl_range'_rel (R := fun _ => AgreeAll M) (fun i _ _ t t' ht => ?_) h
      unfold intensityStep
      simp only
      rw [(ht.live ch).spec i (hspec i)]
      exact (ht.setSpec _ _ _).setSpec _ _ _

end Runs

/-- INTENSITY changes, besides its own channel, SPEC of the next one only. -/
theorem intensity_frame (p : Config.Params) (ch sf : Nat) (s : State) :
    (∀ c, c ≠ ch → c ≠ ch + 1 → (intensity p ch sf s).chan c = s.chan c)
      ∧ { (intensity p ch sf s).chan (ch + 1) with spec := (s.chan (ch + 1)).spec } = s.chan (ch + 1) := by
  unfold intensity
  simp only
  split
  case isFalse => exact ⟨fun _ _ _ => rfl, rfl⟩
  case isTrue =>
    refine foldl_keeps (P := fun t : State => (∀ c, c ≠ ch → c ≠ ch + 1 → t.chan c = s.chan c)
      ∧ { t.chan (ch + 1) with spec := (s.chan (ch + 1)).spec } = s.chan (ch + 1)) (fun i _ t ht => ?_) s
      ⟨fun _ _ _ => rfl, rfl⟩
    obtain ⟨hother, hnext⟩ := ht
    unfold intensityStep
    refine ⟨fun c hc hc' => ?_, ?_⟩
    · rw [State.chan_modChan_ne _ _ hc, State.chan_modChan_ne _ _ hc', hother c hc hc']
    · rw [State.chan_modChan_ne _ _ (Nat.succ_ne_self ch), State.chan_modChan]
      split <;> exact hnext

/-! ### The privacy of channels -/

section Privacy

variable {s s' : State} {ch : Nat}

/-- Two states that agree on everything but the other channels. -/
theorem agreeAt_all (h : Alike s s') (hch : s'.chan ch = s.chan ch) :
    AgreeAt ch Live.all s.chan s'.chan s s' :=
  ⟨h, by rw [hch]; exact .refl _ _, fun _ _ => rfl, fun _ _ => rfl⟩

/-- What two runs that agree on every part of their channel say of its privacy. -/
theorem AgreeAt.isolated {L : Live} {t t' : State} (h : AgreeAt ch L s.chan s'.chan t t')
    (hL : Live.all.Le L) :
    OnlyChannel s t ch ∧ t'.chan ch = t.chan ch ∧ { t' with chans := t.chans } = t :=
  ⟨h.others, (h.live.mono hL).eq_of_all, h.alike⟩

theorem all_le_synthesized (sf : Nat) : Live.all.Le (Live.all.synthesized sf) :=
  { Live.Le.refl Live.all with wave := fun _ => .inl }

/-- Settles O59: every stage of a channel keeps two runs equal that start equal on that channel. -/
theorem channelStateIsPrivate : Obligations.ChannelStateIsPrivate := by
  intro s s' t t' ch sf halike hch
  have hall := agreeAt_all halike hch
  refine ⟨fun i hi h h' => ?_, fun hint h h' => ?_⟩
  · simp only [List.mem_cons, List.not_mem_nil, or_false] at hi
    rcases hi with rfl | rfl | rfl | rfl <;> cases h <;> cases h'
    · exact (agreeUpTo_stage1 hall trivial).1.isolated (.refl _)
    · exact (agreeAt_dequant hall trivial trivial fun _ _ => trivial).isolated (.refl _)
    · exact (agreeAt_hfr hall trivial (fun _ => trivial) fun _ _ _ => trivial).isolated (.refl _)
    · exact (agreeAt_synth hall _ _ (fun _ => trivial) trivial).isolated (all_le_synthesized _)
  · cases h
    cases h'
    have hpair : AgreeAll (fun c => if c = ch.val then Live.all else { Live.none with int := c = ch.val + 1 })
        s s' := by
      refine ⟨halike, fun c => ?_⟩
      split
      case isTrue hc =>
        rw [hc, hch]
        exact .refl _ _
      case isFalse =>
        refine { Channel.AgreeOn.of_none (s.chan c) (s'.chan c) with int := fun hc => ?_ }
        rw [show c = ch.val + 1 from hc]
        exact hint
    have hrun := agreeAll_intensity hpair Config.params sf.val (ch := ch.val) (by simp [Live.all])
      (by simp [Live.all]) (by simp)
    obtain ⟨hother, hnext⟩ := intensity_frame Config.params ch.val sf.val s
    have hown := hrun.live ch.val
    rw [if_pos rfl] at hown
    exact ⟨hother, hnext, hown.eq_of_all, hrun.alike⟩

end Privacy

end Sys2Proof.Machine
end

section
/-! SUPPORT. What carries from one block to the next (spec/10_state.md R50, R56): two runs of the body of a
DECODE_BLOCK that begin with nothing but TYPE, COUNT and WAV3 in common, stage by stage over all channels. -/

namespace Sys2Proof.Machine

/-! ### The layout of a configured stream -/

/-- What the stages need of a checked configuration: COUNT of a channel that is not of type 2 is R06 + R07, and a
channel of type 1 is followed by one of type 2. -/
structure State.Layout (s : State) : Prop where
  count : ∀ c, c < s.channels.toNat → (s.chan c).type ≠ .secondary →
    (s.chan c).count = s.r06.toNat + s.r07.toNat
  pair : ∀ c, c + 1 < s.channels.toNat → (s.chan c).type = .primary → (s.chan (c + 1)).type = .secondary

/-- The offsets of the primary channels of a track (spec/30_encoding.md R92). -/
theorem primary_offset {b r04 o : Nat} (h : trackType b r04 o = .primary) :
    (1 < b ∧ b ≤ 8) ∧ (o = 0 ∨ b = 4 ∧ r04 = 0 ∧ o = 2 ∨ b = 5 ∧ r04 ≤ 2 ∧ o = 3 ∨ (b = 6 ∨ b = 7) ∧ o = 4
      ∨ b = 8 ∧ (o = 4 ∨ o = 6)) := by
  unfold trackType at h
  split_ifs at h <;> omega

/-- Within a track a primary is followed by a secondary. -/
theorem trackType_succ {b r04 o : Nat} (h : trackType b r04 o = .primary) :
    o + 1 < b ∧ trackType b r04 (o + 1) = .secondary := by
  obtain ⟨hb, rfl | ⟨rfl, rfl, rfl⟩ | ⟨rfl, hr, rfl⟩ | ⟨hb', rfl⟩ | ⟨rfl, rfl | rfl⟩⟩ := primary_offset h
  · exact ⟨hb.1, by simp [trackType]; omega⟩
  · exact ⟨by decide, rfl⟩
  · exact ⟨by decide, by simp [trackType, hr]⟩
  · rcases hb' with rfl | rfl <;> exact ⟨by decide, by simp [trackType]⟩
  · exact ⟨by decide, rfl⟩
  · exact ⟨by decide, rfl⟩

theorem assignType_succ {c r03 r04 r07 ch : Nat} (h : assignType c r03 r04 r07 ch = .primary) :
    assignType c r03 r04 r07 (ch + 1) = .secondary := by
  unfold assignType at h ⊢
  simp only at h ⊢
  generalize c / r03 = b at h ⊢
  split at h
  case isFalse => cases h
  case isTrue hc =>
    obtain ⟨hlt, hsucc⟩ := trackType_succ h
    have hsplit : ch + 1 = b * (ch / b) + (ch % b + 1) := by rw [← Nat.add_assoc, Nat.div_add_mod]
    have hdiv : (ch + 1) / b = ch / b := by
      rw [hsplit, Nat.mul_add_div (by omega), Nat.div_eq_of_lt hlt, Nat.add_zero]
    have hmod : (ch + 1) % b = ch % b + 1 := by
      rw [hsplit, Nat.mul_add_mod, Nat.mod_eq_of_lt hlt]
    rw [hdiv, hmod, if_pos hc, hsucc]

theorem channels_le_of_configCheck {s : State} (h : s.configCheck = none) : s.channels.toNat ≤ 16 :=
  (conditions_of_configCheck h 1 (by decide) (by decide)).2

theorem layout_of_derived {s : State} (h : s.Derived) : s.Layout := by
  obtain ⟨hcheck, -, -, hchan⟩ := h
  have hle := channels_le_of_configCheck hcheck
  refine ⟨fun c hc htype => ?_, fun c hc htype => ?_⟩
  · obtain ⟨ht, hn⟩ := hchan c (by omega)
    rw [if_pos hc] at ht hn
    rw [hn, State.countOf, if_neg (ht ▸ htype)]
  · obtain ⟨ht, -⟩ := hchan c (by omega)
    obtain ⟨ht', -⟩ := hchan (c + 1) (by omega)
    rw [if_pos (by omega)] at ht
    rw [if_pos hc] at ht'
    rw [ht']
    exact assignType_succ (ht.symm.trans htype)

/-! ### The parts in common after each stage -/

/-- Before STAGE1 of a body: TYPE, COUNT and WAV3; and the first `f` subframes of WAVE once they are written. -/
def Live.carried (f : Nat) : Live := { Live.none with kind := True, wav3 := True, wave := (· < f) }

/-- After STAGE1 of a channel, with the first `f` subframes of WAVE. -/
def State.decodedParts (s : State) (f ch : Nat) : Live :=
  (Live.carried f).decoded (s.chan ch).type (s.chan ch).count (s.r06.toNat + s.r07.toNat) s.r09.toNat

/-- The scale factors that HFR reads are those that STAGE1 stores. -/
theorem decodedParts_sf {s : State} (hs : s.Layout) {ch : Nat} (f : Nat) (hc : ch < s.channels.toNat)
    (ht : (s.chan ch).type ≠ .secondary) {i : Nat} (hi : i < s.r06.toNat + s.r07.toNat + s.r09.toNat) :
    (s.decodedParts f ch).sf i := by
  have hcount := hs.count ch hc ht
  by_cases hlow : i < (s.chan ch).count
  · exact .inl (.inr hlow)
  · exact .inr ⟨ht, by omega, hi⟩

/-- Two runs of a body begun from `s₀`: the states agree in everything but the channels; and unless a fault has ended
both, each of the `n` channels in use agrees on some parts, the others on WAV3. -/
structure BodyAgree (s₀ : State) (n : Nat) (M : Nat → Live) (s s' : State) : Prop where
  from₀ : StageStep s₀ s
  alike : Alike s s'
  live : s.phase ≠ .faulted → ∀ c, c < n → (s.chan c).AgreeOn (M c) (s'.chan c)
  rest : s.phase ≠ .faulted → ∀ c, n ≤ c → (s'.chan c).wav3 = (s.chan c).wav3

section Body

variable {s₀ s s' : State} {n : Nat} {M M' : Nat → Live}

/-- After a fault only the states but for the channels matter. -/
theorem BodyAgree.of_faulted (h : BodyAgree s₀ n M s s') (hp : s.phase = .faulted) :
    BodyAgree s₀ n M' s s' :=
  ⟨h.from₀, h.alike, fun hp' => absurd hp hp', fun hp' => absurd hp hp'⟩

theorem BodyAgree.mono (h : BodyAgree s₀ n M s s') (hle : ∀ c, c < n → (M' c).Le (M c)) :
    BodyAgree s₀ n M' s s' :=
  { h with live := fun hp c hc => (h.live hp c hc).mono (hle c hc) }

/-- One channel's view of two runs of a body. -/
theorem BodyAgree.at (h : BodyAgree s₀ n M s s') (hp : s.phase ≠ .faulted) {c : Nat} (hc : c < n) :
    AgreeAt c (M c) s.chan s'.chan s s' :=
  ⟨h.alike, h.live hp c hc, fun _ _ => rfl, fun _ _ => rfl⟩

/-- A stage of one channel, run for all channels in use. -/
theorem BodyAgree.forChannels {f : Nat → State → State} (h : BodyAgree s₀ n M s s')
    (hstep : ∀ c t, StageStep t (f c t))
    (hf : ∀ c, c < n → ∀ t t', StageStep s₀ t → AgreeAt c (M c) t.chan t'.chan t t' →
      AgreeUpTo c Live.none (M' c) t.chan t'.chan (f c t) (f c t')) :
    BodyAgree s₀ n M' (forEach (List.range n) f s) (forEach (List.range n) f s') := by
  rw [List.range_eq_range']
  have hrun := forEach_range'_rel (lo := 0) (n := n) (f := f)
    (R := fun i => BodyAgree s₀ n fun c => if c < i then M' c else M c)
    (fun _ _ _ ht => ht.alike.phase) (fun _ _ _ hp ht => ht.of_faulted hp)
    (fun i _ hi t t' hp ht => ?_) (h.mono fun c _ => by simpa using Live.Le.refl (M c))
  · exact hrun.mono fun c hc => by simpa [hc] using Live.Le.refl (M' c)
  · have hi' : i < n := by omega
    have hview := ht.at hp hi'
    rw [if_neg (Nat.lt_irrefl i)] at hview
    obtain ⟨hbase, hlive⟩ := hf i hi' t t' ht.from₀ hview
    refine ⟨ht.from₀.trans (hstep i t), hbase.alike, fun hp' c hc => ?_, fun _ c hc => ?_⟩
    · by_cases hci : c = i
      · rw [hci, if_pos (Nat.lt_succ_self i)]
        exact (hlive hp').live
      · rw [hbase.others c hci, hbase.others' c hci]
        refine (ht.live hp c hc).mono ?_
        by_cases hlt : c < i
        · simpa [hlt, Nat.lt_succ_of_lt hlt] using Live.Le.refl (M' c)
        · simpa [hlt, show ¬c < i + 1 by omega] using Live.Le.refl (M c)
    · have hci : c ≠ i := by omega
      rw [hbase.others c hci, hbase.others' c hci]
      exact ht.rest hp c hc

/-- INTENSITY of one channel, which with the next one is in use. -/
theorem BodyAgree.intensity (h : BodyAgree s₀ n M s s') (hp : s.phase ≠ .faulted) (p : Config.Params)
    (sf : Nat) {ch : Nat} (hch : ch + 1 < n) (hk : (M ch).kind) (hspec : ∀ i, (M ch).spec i)
    (hint : (s.chan ch).type = .primary → (M (ch + 1)).int) :
    BodyAgree s₀ n M (intensity p ch sf s) (intensity p ch sf s') := by
  have hall : AgreeAll (fun c => if c < n then M c else Live.none) s s' := by
    refine ⟨h.alike, fun c => ?_⟩
    split
    · exact h.live hp c ‹_›
    · exact .of_none _ _
  have hcn : ch < n := by omega
  have hrun := agreeAll_intensity hall p sf (ch := ch) (by simpa [hcn] using hk) (by simpa [hcn] using hspec)
    (by simpa [hch] using hint)
  refine ⟨h.from₀.trans (stageStep_intensity p ch sf s), hrun.alike, fun _ c hc => ?_, fun _ c hc => ?_⟩
  · simpa [hc] using hrun.live c
  · rw [(intensity_frame p ch sf s).1 c (by omega) (by omega),
      (intensity_frame p ch sf s').1 c (by omega) (by omega)]
    exact h.rest hp c hc

end Body

/-! ### The stages of a body -/

section Stages

variable {s₀ s s' : State}

theorem StageStep.channels (h : StageStep s s') : s'.channels = s.channels :=
  (congrArg State.channels h.1 :)

theorem bodyAgree_stage1 (h : BodyAgree s₀ s₀.channels.toNat (fun _ => Live.carried 0) s s') :
    BodyAgree s₀ s₀.channels.toNat (s₀.decodedParts 0)
      (forEach (List.range s₀.channels.toNat) stage1 s) (forEach (List.range s₀.channels.toNat) stage1 s') := by
  refine h.forChannels stageStep_stage1 fun c _ t t' hstep ht => ?_
  have hrun := agreeUpTo_stage1 ht trivial
  rw [(hstep.2.1 c).1, (hstep.2.1 c).2, hstep.r06, hstep.r07, hstep.r09] at hrun
  exact ⟨hrun.1.mono (Live.none_le _), hrun.2⟩

/-- After a subframe is synthesised, the parts in common are those before it and its subframe of WAVE. -/
theorem decodedParts_succ_le (s : State) (f ch : Nat) :
    (s.decodedParts (f + 1) ch).Le ((s.decodedParts f ch).withSpec.synthesized f) :=
  { Live.Le.refl ((s.decodedParts f ch).withSpec.synthesized f) with
    spec := fun _ _ => trivial
    wav1 := fun _ => trivial
    wav2 := fun _ => trivial
    wave := fun _ hg => Nat.lt_succ_iff_lt_or_eq.mp hg }

theorem bodyAgree_subframe (hs : s₀.Layout) (p : Config.Params) (f : Nat)
    (h : BodyAgree s₀ s₀.channels.toNat (s₀.decodedParts f) s s') :
    BodyAgree s₀ s₀.channels.toNat (s₀.decodedParts (f + 1)) (subframe p f s) (subframe p f s') := by
  unfold subframe
  rw [h.alike.channels, h.from₀.channels]
  simp only
  have hdequant := h.forChannels (M' := fun c => (s₀.decodedParts f c).withSpec) (f := dequant)
    stageStep_dequant fun c _ t t' hstep ht =>
      (agreeAt_dequant ht trivial trivial fun i hi => .inr ((hstep.2.1 c).2 ▸ hi)).upTo (Live.none_le _)
  have hhfr := hdequant.forChannels (M' := fun c => (s₀.decodedParts f c).withSpec) (f := hfr)
    stageStep_hfr fun c hc t t' hstep ht => by
      refine (agreeAt_hfr ht trivial (fun _ => trivial) fun htype i hi => ?_).upTo (Live.none_le _)
      rw [hstep.r06, hstep.r07, hstep.r09] at hi
      exact decodedParts_sf hs f hc ((hstep.2.1 c).1 ▸ htype) hi
  refine BodyAgree.forChannels (M := fun c => (s₀.decodedParts f c).withSpec) ?_ (fun c => stageStep_synth p c f)
    fun c _ t t' _ ht =>
      ((agreeAt_synth ht p f (fun _ => trivial) trivial).mono (decodedParts_succ_le s₀ f c)).upTo
        (Live.none_le _)
  rw [List.range_eq_range' (n := s₀.channels.toNat - 1)]
  refine forEach_range'_rel (R := fun _ => BodyAgree s₀ _ fun c => (s₀.decodedParts f c).withSpec)
    (fun _ _ _ ht => ht.alike.phase) (fun _ _ _ _ ht => ht) (fun c _ hc t t' hp ht => ?_) hhfr
  refine ht.intensity hp p f (by omega) trivial (fun _ => trivial) fun htype => .inr ?_
  exact hs.pair c (by omega) ((ht.from₀.2.1 c).1 ▸ htype)

/-- After the stages, all eight subframes of WAVE agree, and WAV3. -/
theorem bodyAgree_bodyStages (hs : s.Layout) (p : Config.Params) (halike : Alike s s')
    (hlive : ∀ c, (s.chan c).AgreeOn (Live.carried 0) (s'.chan c)) :
    BodyAgree s s.channels.toNat (s.decodedParts 8) (bodyStages p s) (bodyStages p s') := by
  have hinit : BodyAgree s s.channels.toNat (fun _ => Live.carried 0) s s' :=
    ⟨.refl s, halike, fun _ c _ => hlive c, fun _ c _ => (hlive c).wav3 trivial⟩
  unfold bodyStages
  rw [halike.channels, List.range_eq_range' (n := 8)]
  exact forEach_range'_rel (lo := 0) (n := 8) (R := fun f => BodyAgree s s.channels.toNat (s.decodedParts f))
    (fun _ _ _ ht => ht.alike.phase) (fun _ _ _ hp ht => ht.of_faulted hp)
    (fun f _ _ t t' _ ht => bodyAgree_subframe hs p f ht) (bodyAgree_stage1 hinit)

end Stages

/-! ### PCM_OUT -/

section Pcm

variable {s s' : State}

theorem pcmOut_of_ok {q : Cells 32}
    (h : pcmRun s s.channels.toNat (sampleOrder s.channels.toNat) s.pcm = .ok q) :
    pcmOut s = { s with pcm := q } := by
  rw [pcmOut, h]

theorem pcmOut_of_error {c : Cause}
    (h : pcmRun s s.channels.toNat (sampleOrder s.channels.toNat) s.pcm = .error c) :
    pcmOut s = s.raise c := by
  rw [pcmOut, h]

theorem pcmRun_congr (halike : Alike s s') (c : Nat) {l : List (Nat × Nat × Nat)}
    (hl : ∀ x, x ∈ l → s'.wave x.2.2 x.1 x.2.1 = s.wave x.2.2 x.1 x.2.1) (q : Cells 32) :
    pcmRun s' c l q = pcmRun s c l q := by
  induction l generalizing q with
  | nil => rfl
  | cons x l ih =>
    obtain ⟨sf, j, ch⟩ := x
    have hwave : s'.wave ch sf j = s.wave ch sf j := hl _ List.mem_cons_self
    have hvolume : s'.volume = s.volume := halike.read State.volume fun _ _ => rfl
    have hformat : s'.pcmFormat = s.pcmFormat := halike.read State.pcmFormat fun _ _ => rfl
    rw [pcmRun, pcmRun, hwave, hvolume, hformat]
    split
    · rfl
    · exact ih (fun y hy => hl y (List.mem_cons_of_mem _ hy)) _

theorem mem_sampleOrder {c : Nat} {x : Nat × Nat × Nat} (h : x ∈ sampleOrder c) : x.1 < 8 ∧ x.2.2 < c := by
  simp only [sampleOrder, List.mem_flatMap, List.mem_map, List.mem_range] at h
  obtain ⟨sf, hsf, j, -, ch, hch, rfl⟩ := h
  exact ⟨hsf, hch⟩

/-- PCM_OUT reads of the channels the subframes of WAVE in use only, and changes none. -/
theorem alike_pcmOut (halike : Alike s s')
    (hwave : ∀ ch sf, ch < s.channels.toNat → sf < 8 →
      (s'.chan ch).wave[sf]? = (s.chan ch).wave[sf]?) :
    Alike (pcmOut s) (pcmOut s') ∧ (pcmOut s).chans = s.chans ∧ (pcmOut s').chans = s'.chans := by
  have hpcm : s'.pcm = s.pcm := halike.read State.pcm fun _ _ => rfl
  have hrun : pcmRun s' s'.channels.toNat (sampleOrder s'.channels.toNat) s'.pcm
      = pcmRun s s.channels.toNat (sampleOrder s.channels.toNat) s.pcm := by
    rw [halike.channels, hpcm]
    refine pcmRun_congr halike _ (fun x hx => ?_) _
    obtain ⟨hsf, hch⟩ := mem_sampleOrder hx
    rw [State.wave, State.wave, hwave _ _ hch hsf]
  rcases pcmOut_cases s with ⟨q, hq, e⟩ | ⟨c, hq, e⟩
  · rw [e, pcmOut_of_ok (hrun.trans hq)]
    exact ⟨(congrArg (fun t : State => ({ t with pcm := q } : State)) halike :), rfl, rfl⟩
  · rw [e, pcmOut_of_error (hrun.trans hq)]
    exact ⟨halike.raise c, rfl, rfl⟩

/-- PCM_OUT after the stages, and what is then left in common. -/
theorem BodyAgree.pcmOut {s₀ : State} {M : Nat → Live} (h : BodyAgree s₀ s₀.channels.toNat M s s')
    (hwave : ∀ c f, f < 8 → (M c).wave f) (hwav3 : ∀ c, (M c).wav3) :
    Alike (s.andThen pcmOut) (s'.andThen pcmOut)
      ∧ ((s.andThen pcmOut).phase ≠ .faulted →
        ∀ c, ((s'.andThen pcmOut).chan c).wav3 = ((s.andThen pcmOut).chan c).wav3) := by
  unfold State.andThen
  rw [h.alike.phase]
  split
  case isTrue hp => exact ⟨h.alike, fun hp' => absurd hp hp'⟩
  case isFalse hp =>
    have hlive := h.live hp
    rw [← h.from₀.channels] at hlive
    obtain ⟨halike, hchans, hchans'⟩ := alike_pcmOut h.alike fun ch sf hch hsf =>
      (hlive ch hch).wave sf (hwave ch sf hsf)
    refine ⟨halike, fun _ c => ?_⟩
    rw [State.chan_congr hchans, State.chan_congr hchans']
    by_cases hc : c < s₀.channels.toNat
    · exact (h.live hp c hc).wav3 (hwav3 c)
    · exact h.rest hp c (by omega)

end Pcm

/-! ### The beginning and the end of a body -/

theorem opSync_update (v : BitVec 16) (s : State) (a : Int) (cs : Vector Channel 16) :
    opSync v { s with noise := a, chans := cs } = { opSync v s with noise := a, chans := cs } := by
  unfold opSync
  by_cases hv : v = 0xFFFF
  · simp only [if_pos hv]
    rfl
  · simp only [if_neg hv]
    rfl

/-- The beginning of a body reads no channel and none of NOISE, BITPOS and BITLIMIT. -/
theorem bodyHead_update (s : State) (a : Int) (b l : Nat) (cs : Vector Channel 16) :
    bodyHead { s with noise := a, bitPos := b, bitLimit := l, chans := cs }
      = { bodyHead s with noise := a, chans := cs } := by
  have hstart : blockStart (descramble { s with noise := a, bitPos := b, bitLimit := l, chans := cs })
      = { blockStart (descramble s) with noise := a, chans := cs } := by
    rw [descramble_eq, descramble_eq]
    rfl
  rw [bodyHead, hstart]
  exact opSync_update _ _ a cs

theorem bodyHead_chans (s : State) : (bodyHead s).chans = s.chans := by
  unfold bodyHead syncField opSync
  rw [descramble_eq]
  simp only
  split <;> rfl

theorem State.andThen_of_faulted {s : State} (f : State → State) (h : s.phase = .faulted) : s.andThen f = s :=
  if_pos h

theorem State.andThen_of_not_faulted {s : State} (f : State → State) (h : s.phase ≠ .faulted) :
    s.andThen f = f s :=
  if_neg h

/-- A wrong sync field ends the body at once. -/
theorem decodeBody_of_badSync (p : Config.Params) {s : State} (h : (bodyHead s).phase = .faulted) :
    decodeBody p s = (bodyHead s).unspecified := by
  have hstages : bodyStages p (bodyHead s) = bodyHead s := by
    rw [bodyStages, forEach_faulted _ _ h, forEach_faulted _ _ h]
  rw [decodeBody_eq, State.andThen_of_faulted _ h, hstages, State.andThen_of_faulted _ h]
  exact if_pos h

theorem decodeBody_of_sync (p : Config.Params) {s : State} (h : (bodyHead s).phase ≠ .faulted) :
    decodeBody p s = bodyEnd ((bodyStages p (noiseField (bodyHead s))).andThen pcmOut) := by
  rw [decodeBody_eq, State.andThen_of_not_faulted _ h]

theorem State.Layout.of_stageStep {s t : State} (hs : s.Layout) (h : StageStep s t) : t.Layout := by
  obtain ⟨-, hkind, -⟩ := id h
  refine ⟨fun c hc ht => ?_, fun c hc ht => ?_⟩
  · rw [h.channels] at hc
    rw [(hkind c).1] at ht
    rw [(hkind c).2, h.r06, h.r07]
    exact hs.count c hc ht
  · rw [h.channels] at hc
    rw [(hkind c).1] at ht
    rw [(hkind _).1]
    exact hs.pair c hc ht

theorem layout_noiseField_bodyHead {s : State} (hs : s.Layout) : (noiseField (bodyHead s)).Layout := by
  have hdescramble : (descramble s).Layout := by
    rw [descramble_eq]
    exact ⟨hs.count, hs.pair⟩
  exact (hdescramble.of_stageStep (stageStep_bodyHead s)).of_stageStep (stageStep_noiseField _)

theorem noiseField_chans (s : State) : (noiseField s).chans = s.chans := rfl

/-- The noise fields replace NOISE. -/
theorem alike_noiseField {s s' : State} {a : Int} (h : { s' with noise := a, chans := s.chans } = s) :
    Alike (noiseField s) (noiseField s') :=
  (congrArg noiseField h :)

/-- Two states agree in everything but NOISE and the channels. -/
def AlikeButNoise (s s' : State) : Prop := { s' with noise := s.noise, chans := s.chans } = s

theorem AlikeButNoise.unspecified {s s' : State} {a : Int} {cs : Vector Channel 16}
    (h : { s' with noise := a, chans := cs } = s) : AlikeButNoise s.unspecified s'.unspecified :=
  (congrArg (fun t : State =>
    ({ t with noise := s.unspecified.noise, chans := s.unspecified.chans } : State)) h :)

theorem Alike.butNoise {s s' : State} (h : Alike s s') : AlikeButNoise s s' :=
  (congrArg (fun t : State => ({ t with noise := s.noise } : State)) h :)

theorem Alike.blockDone {s s' : State} (h : Alike s s') : Alike (blockDone s) (blockDone s') :=
  (congrArg Machine.blockDone h :)

/-- The end of two bodies that agree in everything but the channels, and on WAV3 where no fault ended them. -/
theorem bodyEnd_agree {s s' : State} (halike : Alike s s')
    (hwav3 : s.phase ≠ .faulted → ∀ c, (s'.chan c).wav3 = (s.chan c).wav3) :
    AlikeButNoise (bodyEnd s) (bodyEnd s')
      ∧ ((bodyEnd s).phase ≠ .faulted → ∀ c, ((bodyEnd s').chan c).wav3 = ((bodyEnd s).chan c).wav3) := by
  have hphase := halike.phase
  rcases bodyEnd_cases s with ⟨hp, e⟩ | ⟨hp, e⟩ <;>
    rcases bodyEnd_cases s' with ⟨hp', e'⟩ | ⟨hp', e'⟩ <;> rw [e, e']
  · exact ⟨.unspecified halike.butNoise, fun h => absurd hp h⟩
  · exact absurd (hphase.trans hp) hp'
  · exact absurd (hphase.symm.trans hp') hp
  · exact ⟨halike.blockDone.butNoise, fun _ => hwav3 hp⟩

/-- Two bodies whose states agree in everything but the datapath, and of the datapath on WAV3. -/
theorem decodeBody_carry (p : Config.Params) {s s' : State} (hs : s.Layout)
    (heq : { s' with noise := s.noise, bitPos := s.bitPos, bitLimit := s.bitLimit, chans := s.chans } = s)
    (hlive : ∀ c, (s.chan c).AgreeOn (Live.carried 0) (s'.chan c)) :
    AlikeButNoise (decodeBody p s) (decodeBody p s')
      ∧ ((decodeBody p s).phase ≠ .faulted →
        ∀ c, ((decodeBody p s').chan c).wav3 = ((decodeBody p s).chan c).wav3) := by
  have hhead : { bodyHead s' with noise := s.noise, chans := (bodyHead s).chans } = bodyHead s := by
    rw [bodyHead_chans, ← bodyHead_update s' s.noise s.bitPos s.bitLimit s.chans, heq]
  have hphase : (bodyHead s').phase = (bodyHead s).phase := (congrArg State.phase hhead :)
  by_cases hp : (bodyHead s).phase = .faulted
  case pos =>
    rw [decodeBody_of_badSync p hp, decodeBody_of_badSync p (hphase.trans hp)]
    exact ⟨.unspecified hhead, fun hp' => absurd hp hp'⟩
  case neg =>
    have hchan (c : Nat) : ((noiseField (bodyHead s)).chan c).AgreeOn (Live.carried 0)
        ((noiseField (bodyHead s')).chan c) := by
      rw [State.chan_congr (noiseField_chans (bodyHead s)), State.chan_congr (bodyHead_chans s),
        State.chan_congr (noiseField_chans (bodyHead s')), State.chan_congr (bodyHead_chans s')]
      exact hlive c
    rw [decodeBody_of_sync p hp, decodeBody_of_sync p (hphase ▸ hp)]
    obtain ⟨hend, hwav3⟩ :=
      (bodyAgree_bodyStages (layout_noiseField_bodyHead hs) p (alike_noiseField hhead) hchan).pcmOut
        (fun _ _ => id) fun _ => trivial
    exact bodyEnd_agree hend hwav3

theorem step_of_decoderTurn {s : State} (hturn : s.DecoderTurn) (hp : s.phase = .busy) :
    step s = .next (decodeBody Config.params s.afterEvent) := by
  have hbody : decoderStep Config.params s.afterEvent = decodeBody Config.params s.afterEvent := if_pos hp
  rw [← hbody]
  rcases hturn with hin | ⟨rest, hin⟩
  · have hs : s.afterEvent = s := by rw [State.afterEvent, hin, List.tail_nil, ← hin]
    rw [hs, step, hin]
  · have hs : s.afterEvent = s.withInbox rest := by rw [State.afterEvent, hin]; rfl
    rw [hs, step, hin]

/-- Settles O60: a body begun with TYPE, COUNT and WAV3 in common ends with the same host's side and WAV3. -/
theorem overlapIsTheOnlyCarry : Obligations.OverlapIsTheOnlyCarry := by
  intro s s' t t' hconf hp hturn heq hchan h h'
  have hport : s'.port = s.port := (congrArg State.port heq :)
  have hp' : s'.phase = .busy := (congrArg State.phase heq :).trans hp
  have hturn' : s'.DecoderTurn := by rwa [State.DecoderTurn, hport]
  obtain rfl := Host.Outcome.next.inj ((step_of_decoderTurn hturn hp).symm.trans h)
  obtain rfl := Host.Outcome.next.inj ((step_of_decoderTurn hturn' hp').symm.trans h')
  obtain ⟨hcount, hpair⟩ := layout_of_derived (hconf (.inr hp))
  refine decodeBody_carry Config.params ⟨hcount, hpair⟩ (congrArg State.afterEvent heq :) fun c => ?_
  obtain ⟨htype, hcount, hwav3⟩ := hchan c
  exact
    { Channel.AgreeOn.of_none (s.chan c) (s'.chan c) with
      kind := fun _ => ⟨htype, hcount⟩
      wav3 := fun _ => hwav3
      wave := nofun }

end Sys2Proof.Machine
end

section
/-! SUPPORT. What a body of a DECODE_BLOCK leaves (spec/46_commands.md R161, R167): `BodyOutcome` lists its two ends
once; then what the host sees of it. -/

namespace Sys2Proof.Machine

/-! ### DESCRAMBLE -/

theorem memMapped_blockAddr {i : Nat} (h : i < 65535) : memMapped (blockAddr i) = true := by
  simp only [memMapped, Bool.or_eq_true, Bool.and_eq_true, decide_eq_true_eq]
  rw [blockAddr]
  omega

theorem descrambled_succ (n : Nat) (m : Memory) : descrambled (n + 1) m = substituted (descrambled n m) n := by
  rw [descrambled, List.range_succ, List.foldl_append]
  rfl

/-- What a byte reads as after DESCRAMBLE: substituted by CIPHER inside the block, as before elsewhere. CIPHER
stands below the block buffer, so every substitution finds it as it was. -/
theorem memRead_descrambled {n : Nat} (hn : n ≤ 65535) {m : Memory} (hm : m.wf = true) (a : Nat) :
    memRead (descrambled n m) a
      = if 0x10000 ≤ a ∧ a < 0x10000 + n then memRead m (cipherAddr (memRead m a).toNat) else memRead m a := by
  induction n with
  | zero => rw [if_neg (by omega)]; rfl
  | succ n ih =>
    obtain ⟨hwf, hlow⟩ := descrambled_keeps n hm
    have ih := ih (by omega)
    rw [descrambled_succ, substituted, memRead_memWrite _ _ hwf]
    by_cases ha : a = blockAddr n
    · have hself : memRead (descrambled n m) (blockAddr n) = memRead m (blockAddr n) := by
        rw [← ha, ih, if_neg (by rw [ha, blockAddr]; omega)]
      have hbyte := (memRead m (blockAddr n)).isLt
      rw [if_pos ⟨ha, memMapped_blockAddr (by omega)⟩, hself, hlow _ (by rw [cipherAddr]; omega), ha,
        if_pos (by rw [blockAddr]; omega)]
    · have hrange : (0x10000 ≤ a ∧ a < 0x10000 + n) ↔ (0x10000 ≤ a ∧ a < 0x10000 + (n + 1)) := by
        rw [blockAddr] at ha
        omega
      rw [if_neg fun h => ha h.1, ih]
      simp only [hrange]

/-! ### PCM_OUT -/

/-- The samples of `c` channels fill the first 1024 x c words of PCMBUF (spec/45_pcm.md R158). -/
theorem sampleIndex_lt {c : Nat} {x : Nat × Nat × Nat} (h : x ∈ sampleOrder c) :
    sampleIndex c x.1 x.2.1 x.2.2 < 1024 * c := by
  simp only [sampleOrder, List.mem_flatMap, List.mem_map, List.mem_range] at h
  obtain ⟨sf, hsf, j, hj, ch, hch, rfl⟩ := h
  calc (sf * 128 + j) * c + ch
      < (sf * 128 + j) * c + c := by omega
    _ = (sf * 128 + j + 1) * c := (Nat.succ_mul _ _).symm
    _ ≤ 1024 * c := Nat.mul_le_mul_right c (by omega)

/-- What each stored sample keeps, a run without a NaN keeps. -/
theorem pcmRun_keeps {P : Cells 32 → Prop} {s : State} {c : Nat} {l : List (Nat × Nat × Nat)}
    (hP : ∀ x ∈ l, ∀ p w, P p → P (pcmWrite p (sampleIndex c x.1 x.2.1 x.2.2) w)) {p q : Cells 32}
    (hp : P p) (h : pcmRun s c l p = .ok q) : P q := by
  induction l generalizing p with
  | nil =>
    cases h
    exact hp
  | cons x l ih =>
    obtain ⟨sf, j, ch⟩ := x
    rw [pcmRun] at h
    split at h
    · cases h
    · exact ih (fun y hy => hP y (List.mem_cons_of_mem _ hy)) (hP _ List.mem_cons_self _ _ hp) h

/-- PCM_OUT keeps the canonical form and every word from 1024 x c on. -/
theorem pcmRun_sampleOrder_keeps {s : State} {c : Nat} {p q : Cells 32} (hp : pcmWf p = true)
    (h : pcmRun s c (sampleOrder c) p = .ok q) :
    pcmWf q = true ∧ ∀ w, 1024 * c ≤ w → pcmRead q w = pcmRead p w := by
  refine pcmRun_keeps (P := fun r => pcmWf r = true ∧ ∀ w, 1024 * c ≤ w → pcmRead r w = pcmRead p w)
    (fun x hx r v hr => ?_) ⟨hp, fun _ _ => rfl⟩ h
  obtain ⟨hwf, htail⟩ := hr
  have hindex := sampleIndex_lt hx
  refine ⟨pcmWrite_wf _ _ hwf, fun w hw => ?_⟩
  rw [pcmRead_pcmWrite _ _ hwf, if_neg (by omega), htail w hw]

/-! ### The two ends of a body -/

/-- What a body can end in; `u` is the state before its end, reached from the descrambled one by operations that
leave the stores, the registers and DONE alone. -/
inductive BodyOutcome (s : State) : State → Prop
  /-- A decode fault, which leaves the datapath unspecified (spec/60_exceptions.md R187). -/
  | faulted {u : State} (hu : StageStep (descramble s) u) (hp : u.phase = .faulted)
      (hcode : 7 ≤ u.faultCode.toNat ∧ u.faultCode.toNat ≤ 10) : BodyOutcome s u.unspecified
  /-- The samples of the block are stored and the block is counted (spec/46_commands.md R167). -/
  | completed {u : State} {q : Cells 32} (hu : StageStep (descramble s) u)
      (hcode : u.faultCode = s.faultCode) (hinfo : u.faultInfo = s.faultInfo)
      (hq : pcmRun u s.channels.toNat (sampleOrder s.channels.toNat) s.pcm = .ok q) :
      BodyOutcome s (blockDone { u with pcm := q })

theorem bodyOutcome_decodeBody (p : Config.Params) {s : State} (hp : s.phase ≠ .faulted) :
    BodyOutcome s (decodeBody p s) := by
  have hstages := stageStep_beforePcm p s
  rw [decodeBody_eq]
  generalize bodyStages p ((bodyHead s).andThen noiseField) = u at hstages
  obtain ⟨hframe, -, hfault⟩ := id hstages
  rw [descramble_eq] at hframe hfault
  have hchannels : u.channels = s.channels := (congrArg State.channels hframe :)
  have hpcm : u.pcm = s.pcm := (congrArg State.pcm hframe :)
  rcases hfault with ⟨hphase, hcode, hinfo⟩ | ⟨hphase, hcode⟩
  · have hu : u.phase ≠ .faulted := fun h => hp (hphase.symm.trans h)
    rw [State.andThen_of_not_faulted _ hu]
    rcases pcmOut_cases u with ⟨q, hq, e⟩ | ⟨c, hc, e⟩ <;> rw [e]
    · rw [hchannels, hpcm] at hq
      rw [bodyEnd, if_neg hu]
      exact .completed hstages hcode hinfo hq
    · obtain ⟨ch, sf, j, rfl⟩ := pcmRun_error hc
      have hnan : 7 ≤ (Cause.nonFiniteSample ch sf j).code.toNat
          ∧ (Cause.nonFiniteSample ch sf j).code.toNat ≤ 10 := by simp [Cause.code]
      exact .faulted (hstages.trans (.raise u hnan)) rfl hnan
  · rw [State.andThen_of_faulted _ hphase, bodyEnd, if_pos hphase]
    exact .faulted hstages hphase hcode

section Outcome

variable {s t : State}

/-- An operation after DESCRAMBLE works on the descrambled memory. -/
theorem StageStep.mem_of_descramble {u : State} (h : StageStep (descramble s) u) :
    u.mem = descrambled s.blockSize.toNat s.mem := by
  have hmem : u.mem = (descramble s).mem := (congrArg State.mem h.1 :)
  rw [hmem, descramble_eq]

/-- DESCRAMBLE and the stages change the memory, the datapath, the bit reader and the fault record only. -/
theorem StageStep.frame_of_descramble {u : State} (h : StageStep (descramble s) u) :
    { u with
      phase := s.phase, faultCode := s.faultCode, faultInfo := s.faultInfo, bitPos := s.bitPos,
      noise := s.noise, bitLimit := s.bitLimit, chans := s.chans, mem := s.mem } = s := by
  rw [descramble_eq] at h
  exact (congrArg (fun v : State => ({ v with mem := s.mem } : State)) h.1 :)

theorem BodyOutcome.mem (h : BodyOutcome s t) : t.mem = descrambled s.blockSize.toNat s.mem := by
  cases h with
  | faulted hu => exact hu.mem_of_descramble
  | completed hu => exact hu.mem_of_descramble

/-- Whatever its end, a body keeps the canonical form of PCMBUF and the words from 1024 x C on. -/
theorem BodyOutcome.pcm_keeps (h : BodyOutcome s t) (hp : pcmWf s.pcm = true) :
    pcmWf t.pcm = true ∧ ∀ w, 1024 * s.channels.toNat ≤ w → pcmRead t.pcm w = pcmRead s.pcm w := by
  cases h with
  | faulted hu =>
    have hpcm := congrArg State.pcm hu.frame_of_descramble
    rw [State.unspecified_pcm, hpcm]
    exact ⟨hp, fun _ _ => rfl⟩
  | completed hu hcode hinfo hq => exact pcmRun_sampleOrder_keeps hp hq

theorem BodyOutcome.frame (h : BodyOutcome s t) :
    { t with
      phase := s.phase, done := s.done, faultCode := s.faultCode, faultInfo := s.faultInfo,
      bitPos := s.bitPos, blocksDone := s.blocksDone, noise := s.noise, bitLimit := s.bitLimit,
      chans := s.chans, mem := s.mem, pcm := s.pcm } = s := by
  cases h with
  | faulted hu | completed hu =>
    exact (congrArg (fun v : State =>
      ({ v with done := s.done, blocksDone := s.blocksDone, pcm := s.pcm } : State)) hu.frame_of_descramble :)

end Outcome

/-- Settles O58, by the two ends of a body. -/
theorem decoderStepAsTheHostSeesIt : Obligations.DecoderStepAsTheHostSeesIt := by
  intro s hturn hp hm hpcm _ hsize
  have hout : BodyOutcome s.afterEvent (decodeBody Config.params s.afterEvent) :=
    bodyOutcome_decodeBody _ fun h => absurd (hp.symm.trans h) (by decide)
  refine ⟨_, step_of_decoderTurn hturn hp, hout.frame, fun i hi => ?_, fun a ha => ?_, ?_⟩
  · rw [State.blockByte, hout.mem]
    exact (memRead_descrambled hsize hm _).trans (if_pos ⟨Nat.le_add_right .., Nat.add_lt_add_left hi _⟩)
  · rw [hout.mem]
    exact (memRead_descrambled hsize hm _).trans (if_neg fun h => by
      have hlt : a < 0x10000 + s.blockSize.toNat := h.2
      omega)
  · obtain ⟨-, htail⟩ := hout.pcm_keeps hpcm
    generalize decodeBody Config.params s.afterEvent = t at hout htail
    cases hout with
    | faulted hu hphase hcode =>
      have hframe := hu.frame_of_descramble
      exact .inl ⟨hphase, hcode.1, hcode.2, (congrArg State.done hframe :),
        (congrArg State.blocksDone hframe :), (congrArg State.pcm hframe :)⟩
    | completed hu hcode hinfo hq =>
      have hblocks := congrArg State.blocksDone hu.frame_of_descramble
      exact .inr ⟨rfl, rfl, congrArg (· + 1) hblocks, hcode, hinfo, htail⟩

end Sys2Proof.Machine
end

section
/-! SUPPORT. The instructions that a host access decodes to (spec/30_encoding.md R79), and what every step keeps of the
stores. -/

namespace Sys2Proof.Machine

/-! ### Decoding a host access -/

/-- The instructions of the host's side, with the operands that an access can give them. -/
inductive HostInstr : Instr → Prop
  | nop : HostInstr .nop
  | reset : HostInstr .reset
  | configure : HostInstr .configure
  | decodeBlock : HostInstr .decodeBlock
  | ack : HostInstr .ack
  | reservedCmd {x : Word} (hx : reservedWord x = true) : HostInstr (.reservedCmd x)
  | regRead {r : Reg} (hr : r.readable = true) : HostInstr (.regRead r)
  | regWrite {r : Reg} (hr : r.writable = true) (v : Word) : HostInstr (.regWrite r v)
  | athRead (i : Idx) : HostInstr (.athRead i)
  | athWrite (i : Idx) (v : Byte) : HostInstr (.athWrite i v)
  | cipherRead (i : Fin 256) : HostInstr (.cipherRead i)
  | cipherWrite (i : Fin 256) (v : Byte) : HostInstr (.cipherWrite i v)
  | blockbufRead (i : Fin 65535) : HostInstr (.blockbufRead i)
  | blockbufWrite (i : Fin 65535) (v : Byte) : HostInstr (.blockbufWrite i v)
  | pcmbufRead (w : Fin 16384) : HostInstr (.pcmbufRead w)
  | badAccess {a : Access} (ha : a.bad = true) : HostInstr (.badAccess a)

theorem hostInstr_decodeCommand (x : Word) : HostInstr (decodeCommand x) := by
  unfold decodeCommand
  split
  · exact .nop
  · exact .reset
  · exact .configure
  · exact .decodeBlock
  · exact .ack
  case h_6 h0 h1 h2 h3 h4 =>
    have hx : 4 < x.toNat := by
      by_contra hle
      interval_cases x.toNat <;> contradiction
    exact .reservedCmd (decide_eq_true hx)

/-- Every host access decodes to an instruction of the host's side; where its address reaches nothing or the
direction is not served, the access is a bad one. -/
theorem hostInstr_decode (a : Access) : HostInstr (decode (.access a)) := by
  change HostInstr (decodeAccess a)
  unfold decodeAccess
  split
  case h_1 htarget => exact .badAccess (by simp [Access.bad, htarget])
  case h_2 x _ _ => exact hostInstr_decodeCommand x
  case h_3 r htarget hdir =>
    split
    case isTrue hr => exact .regRead hr
    case isFalse hr => exact .badAccess (by simp [Access.bad, htarget, hdir, hr])
  case h_4 r v hcmd htarget hdir =>
    split
    case isTrue hr => exact .regWrite hr v
    case isFalse hr =>
      have hne : r ≠ .cmd := hcmd
      exact .badAccess (by simp [Access.bad, htarget, hdir, hr, hne])
  case h_5 i _ _ => exact .athRead i
  case h_6 i v _ _ => exact .athWrite i _
  case h_7 i _ _ => exact .cipherRead i
  case h_8 i v _ _ => exact .cipherWrite i _
  case h_9 i _ _ => exact .blockbufRead i
  case h_10 i v _ _ => exact .blockbufWrite i _
  case h_11 w _ _ => exact .pcmbufRead w
  case h_12 htarget hdir => exact .badAccess (by simp [Access.bad, htarget, hdir])

theorem HostInstr.wf {i : Instr} (h : HostInstr i) : i.wf = true := by
  cases h with
  | reservedCmd h | regRead h | regWrite h | badAccess h => exact h
  | _ => rfl

/-! ### The step -/

theorem afterEvent_of_inbox {s : State} {e : Event} {rest : List Event} (h : s.port.inbox = e :: rest) :
    s.afterEvent = s.withInbox rest := by
  rw [State.afterEvent, h]
  rfl

theorem step_of_access {s : State} {a : Access} {rest : List Event} (h : s.port.inbox = .access a :: rest) :
    step s = exec (decode (.access a)) s.afterEvent := by
  rw [afterEvent_of_inbox h, step, h]

theorem step_of_turn {s : State} (h : s.DecoderTurn) :
    step s = .next (decoderStep Config.params s.afterEvent) := by
  rcases h with hin | ⟨rest, hin⟩
  · have hs : s.afterEvent = s := by rw [State.afterEvent, hin, List.tail_nil, ← hin]
    rw [hs, step, hin]
  · rw [afterEvent_of_inbox hin, step, hin]

/-- Settles O22: every access decodes to an instruction of the host's side, and those are well-formed. -/
theorem stepRunsDecodedAccess : Obligations.StepRunsDecodedAccess := by
  intro s
  refine ⟨fun a rest h => ⟨(hostInstr_decode a).wf, step_of_access h⟩, fun hturn hp => ?_⟩
  rw [step_of_turn hturn]
  exact congrArg _ (if_neg hp)

/-! ### The canonical form of the stores -/

section Canonical

variable {s : State}

theorem State.Canonical.storeByte (h : s.Canonical) (a : Nat) (v : Byte) : (s.storeByte a v).Canonical :=
  ⟨memWrite_wf a v h.1, h.2⟩

theorem State.Canonical.setReg (h : s.Canonical) (r : Reg) (v : Word) : (s.setReg r v).Canonical := by
  cases r <;> exact h

theorem State.Canonical.assignChannels (h : s.Canonical) : s.assignChannels.Canonical :=
  foldl_keeps (P := State.Canonical) (f := fun t ch =>
    t.modChan ch fun k => { k with type := s.typeOf ch, count := s.countOf ch }) (fun _ _ _ ht => ht) s h

theorem State.Canonical.opConfigure (h : s.Canonical) : (opConfigure s).Canonical := by
  unfold Machine.opConfigure
  split
  · exact h
  · exact h.assignChannels

theorem State.Canonical.hostRead (h : s.Canonical) (addr : Word) (ok always : Bool) (v : Word) :
    (hostRead addr ok always v s).Canonical := by
  rcases hostRead_cases addr ok always v s with ⟨-, -, e⟩ | ⟨-, -, e⟩ | ⟨-, -, e⟩ | ⟨-, -, -, e⟩ |
    ⟨-, -, -, e⟩ <;> rw [e] <;> exact h

theorem State.Canonical.hostWrite (h : s.Canonical) (addr : Word) (ok locked : Bool) {store : State → State}
    (hstore : (store s).Canonical) : (hostWrite addr ok locked store s).Canonical := by
  rcases hostWrite_cases addr ok locked store s with ⟨-, e⟩ | ⟨-, -, e⟩ | ⟨-, -, e⟩ | ⟨-, -, -, e⟩ |
    ⟨-, -, e⟩ <;> rw [e]
  case inr.inr.inr.inr => exact hstore
  all_goals exact h

theorem State.Canonical.hostCommand (h : s.Canonical) {act : State → State} (hact : (act s).Canonical) :
    (hostCommand act s).Canonical := by
  rcases hostCommand_cases act s with ⟨-, e⟩ | ⟨-, e⟩ | ⟨-, e⟩ <;> rw [e]
  · exact h
  · exact h
  · exact hact

/-- A host access keeps the canonical form: what it stores is a byte of memory, a register, or the reset stores. -/
theorem State.Canonical.exec {i : Instr} (hi : HostInstr i) {t : State} (h : s.Canonical)
    (hexec : exec i s = .next t) : t.Canonical := by
  cases hi with
  | nop | ack | reservedCmd =>
    cases hexec
    exact h.hostCommand h
  | reset =>
    cases hexec
    exact ⟨rfl, rfl⟩
  | configure =>
    cases hexec
    refine h.hostCommand ?_
    split
    · exact h.opConfigure
    · exact h
  | decodeBlock =>
    cases hexec
    refine h.hostCommand ?_
    split <;> exact h
  | regWrite _ v =>
    cases hexec
    exact h.hostWrite _ _ _ (h.setReg _ v)
  | athWrite | cipherWrite | blockbufWrite =>
    cases hexec
    exact h.hostWrite _ _ _ (h.storeByte ..)
  | regRead | athRead | cipherRead | blockbufRead | pcmbufRead =>
    cases hexec
    exact h.hostRead ..
  | @badAccess a =>
    rw [Machine.exec, execBadAccess] at hexec
    split at hexec <;> cases hexec
    · exact h.hostRead ..
    · exact h.hostWrite _ _ _ h

theorem State.Canonical.decoderStep (h : s.Canonical) (p : Config.Params) : (decoderStep p s).Canonical := by
  rcases decoderStep_cases p s with ⟨-, e⟩ | ⟨hp, e⟩ <;> rw [e]
  · exact h
  · have hout : BodyOutcome s (decodeBody p s) :=
      bodyOutcome_decodeBody p fun hf => absurd (hp.symm.trans hf) (by decide)
    refine ⟨?_, (hout.pcm_keeps h.2).1⟩
    rw [hout.mem]
    exact (descrambled_keeps _ h.1).1

end Canonical

/-- Settles O51: a host access or the decoder's turn, each keeping the canonical form. -/
theorem stepKeepsStoresCanonical : Obligations.StepKeepsStoresCanonical := by
  intro s t h hstep
  have hafter : s.afterEvent.Canonical := h
  cases hin : s.port.inbox with
  | nil =>
    obtain rfl := Host.Outcome.next.inj ((step_of_turn (.inl hin)).symm.trans hstep)
    exact hafter.decoderStep _
  | cons e rest =>
    cases e with
    | access a => exact hafter.exec (hostInstr_decode a) ((step_of_access hin).symm.trans hstep)
    | decoder =>
      obtain rfl := Host.Outcome.next.inj ((step_of_turn (.inr ⟨rest, hin⟩)).symm.trans hstep)
      exact hafter.decoderStep _

end Sys2Proof.Machine
end

section
/-! SUPPORT. The value of a list of bits, first bit most significant (spec/40_bitreader.md R106): how it splits, that
`msbBits` is its inverse, and what a field read from a list of bits gives. -/

namespace Sys2Proof.Machine

open Sys2Proof.Laws

@[simp] theorem bitsValue_nil : bitsValue [] = 0 := rfl

/-- The value of a list goes on from the value of what was read before it. -/
theorem foldl_bits (l : List Bool) (v : Nat) :
    l.foldl (fun v b => 2 * v + b.toNat) v = v * 2 ^ l.length + bitsValue l := by
  induction l generalizing v with
  | nil => simp
  | cons b l ih =>
    simp only [bitsValue, List.foldl_cons, List.length_cons]
    rw [ih, ih (2 * 0 + b.toNat)]
    ring

theorem bitsValue_append (a b : List Bool) :
    bitsValue (a ++ b) = bitsValue a * 2 ^ b.length + bitsValue b := by
  rw [bitsValue, List.foldl_append, foldl_bits b]
  rfl

theorem bitsValue_append_singleton (l : List Bool) (b : Bool) :
    bitsValue (l ++ [b]) = 2 * bitsValue l + b.toNat := by
  rw [bitsValue, List.foldl_append]
  rfl

theorem bitsValue_lt (l : List Bool) : bitsValue l < 2 ^ l.length := by
  induction l using List.reverseRecOn with
  | nil => decide
  | append_singleton l b ih =>
    rw [bitsValue_append_singleton, List.length_append, List.length_singleton, Nat.pow_succ]
    have := b.toNat_le
    omega

@[simp] theorem msbBits_zero (v : Nat) : msbBits 0 v = [] := rfl

/-- The last bit of `msbBits` is the parity. -/
theorem msbBits_succ (n v : Nat) : msbBits (n + 1) v = msbBits n (v / 2) ++ [v.testBit 0] := by
  unfold msbBits
  rw [List.range_succ, List.map_append, List.map_singleton]
  congr 1
  · refine List.map_congr_left fun k hk => ?_
    have hlt : k < n := List.mem_range.mp hk
    rw [Nat.testBit_div_two]
    congr 1
    omega
  · rw [show n + 1 - 1 - n = 0 by omega]

theorem bitsValue_msbBits (n v : Nat) : bitsValue (msbBits n v) = v % 2 ^ n := by
  induction n generalizing v with
  | zero => simp [Nat.mod_one]
  | succ n ih =>
    rw [msbBits_succ, bitsValue_append_singleton, ih, Nat.testBit_zero, Nat.pow_succ']
    have hsplit := Nat.mod_mul (x := v) (a := 2) (b := 2 ^ n)
    rcases Nat.mod_two_eq_zero_or_one v with h | h <;> simp [h] <;> omega

theorem bitsValue_msbBits_of_lt {n v : Nat} (h : v < 2 ^ n) : bitsValue (msbBits n v) = v := by
  rw [bitsValue_msbBits, Nat.mod_eq_of_lt h]

theorem msbBits_bitsValue (l : List Bool) : msbBits l.length (bitsValue l) = l := by
  induction l using List.reverseRecOn with
  | nil => rfl
  | append_singleton l b ih =>
    rw [List.length_append, List.length_singleton, msbBits_succ, bitsValue_append_singleton]
    have hhalf : (2 * bitsValue l + b.toNat) / 2 = bitsValue l := by have := b.toNat_lt; omega
    have hbit : (2 * bitsValue l + b.toNat).testBit 0 = b := by cases b <;> simp [Nat.testBit_zero]
    rw [hhalf, hbit, ih]

/-! ### Fields of a list of bits -/

/-- The field that stands between two lists of bits. -/
theorem readBits_append (pre field post : List Bool) :
    readBits (pre ++ (field ++ post)) pre.length field.length = bitsValue field := by
  rw [readBits, if_neg (by simp), List.drop_left, List.take_left]

/-- An operand read back from its own bits. -/
theorem readBits_msbBits (pre post : List Bool) {n v off : Nat} (hoff : off = pre.length) (hv : v < 2 ^ n) :
    readBits (pre ++ (msbBits n v ++ post)) off n = v := by
  have h := readBits_append pre (msbBits n v) post
  rwa [msbBits_length, bitsValue_msbBits_of_lt hv, ← hoff] at h

/-- The same at the beginning of the list. -/
theorem readBits_msbBits_head (post : List Bool) {n v : Nat} (hv : v < 2 ^ n) :
    readBits (msbBits n v ++ post) 0 n = v :=
  readBits_msbBits [] post rfl hv

theorem readBits_all {l : List Bool} {n : Nat} (hn : l.length = n) (post : List Bool) :
    readBits (l ++ post) 0 n = bitsValue l :=
  hn ▸ readBits_append [] l post

theorem readBits_lt (l : List Bool) (off n : Nat) : readBits l off n < 2 ^ n := by
  unfold readBits
  split
  · exact Nat.two_pow_pos n
  · refine (bitsValue_lt _).trans_le (Nat.pow_le_pow_right (by decide) ?_)
    exact List.length_take_le _ _

/-- Consecutive fields read back from their own bits. -/
theorem fieldList_flatMap_msbBits {n : Nat} (vs : List (BitVec n)) (post : List Bool) :
    fieldList (readBits ((vs.flatMap fun v => msbBits n v.toNat) ++ post)) n vs.length = vs := by
  refine List.ext_getElem (fieldList_length _ n vs.length) fun k hk hk' => ?_
  have hvs : vs = vs.take k ++ vs[k] :: vs.drop (k + 1) := by
    rw [← List.drop_eq_getElem_cons hk', List.take_append_drop]
  have hsplit : (vs.flatMap fun v => msbBits n v.toNat) ++ post
      = ((vs.take k).flatMap fun v => msbBits n v.toNat)
        ++ (msbBits n vs[k].toNat ++ (((vs.drop (k + 1)).flatMap fun v => msbBits n v.toNat) ++ post)) := by
    have hflat := congrArg (fun l : List (BitVec n) => (l.flatMap fun v => msbBits n v.toNat) ++ post) hvs
    simpa only [List.flatMap_append, List.flatMap_cons, List.append_assoc] using hflat
  have hread := readBits_msbBits ((vs.take k).flatMap fun v => msbBits n v.toNat)
    (((vs.drop (k + 1)).flatMap fun v => msbBits n v.toNat) ++ post) (n := n) (v := vs[k].toNat)
    (off := n * k) (by rw [flatMap_msbBits_length, List.length_take_of_le (by omega)]) vs[k].isLt
  rw [← hsplit] at hread
  simp [fieldList, hread]

end Sys2Proof.Machine
end

section
/-! SUPPORT. Host accesses and their instructions: each target of the address map has one place (spec/20_memory.md
R60-R68), so that decoding and encoding an access undo each other. -/

namespace Sys2Proof.Machine

/-! ### The place of a target -/

/-- The address of a target and the width of its accesses. -/
def targetPlace : Target → Nat × Nat
  | .reg r => (4 * r.index, 32)
  | .ath i => (0x1000 + i.val, 8)
  | .cipher i => (0x1100 + i.val, 8)
  | .blockbuf i => (0x10000 + i.val, 8)
  | .pcmbuf i => (0x20000 + 4 * i.val, 32)

theorem Reg.index_le (r : Reg) : r.index ≤ 0x14 := by cases r <;> decide

theorem target_targetPlace (t : Target) : target (targetPlace t).1 (targetPlace t).2 = some t := by
  cases t with
  | reg r =>
    have hr := Reg.index_le r
    rw [targetPlace, target, if_pos (by omega), if_pos ⟨rfl, by omega⟩, Nat.mul_div_cancel_left _ (by decide),
      Reg.ofIndex_index]
    rfl
  | ath i =>
    have hi := i.isLt
    rw [targetPlace, target, if_neg (by omega), dif_pos (by omega), if_pos rfl]
    simp
  | cipher i =>
    have hi := i.isLt
    rw [targetPlace, target, if_neg (by omega), dif_neg (by omega), dif_pos (by omega), if_pos rfl]
    simp
  | blockbuf i =>
    have hi := i.isLt
    rw [targetPlace, target, if_neg (by omega), dif_neg (by omega), dif_neg (by omega), dif_pos (by omega),
      if_pos rfl]
    simp
  | pcmbuf i =>
    have hi := i.isLt
    rw [targetPlace, target, if_neg (by omega), dif_neg (by omega), dif_neg (by omega), dif_neg (by omega),
      dif_pos (by omega), if_pos ⟨rfl, by omega⟩]
    simp

theorem targetPlace_of_target {n w : Nat} {t : Target} (h : target n w = some t) : targetPlace t = (n, w) := by
  rcases target_some h with ⟨i, rfl, rfl, rfl⟩ | ⟨i, rfl, rfl, rfl⟩ | ⟨i, rfl, rfl, rfl⟩ | ⟨i, rfl, rfl, rfl⟩ |
    ⟨i, rfl, rfl, rfl⟩ <;> rfl

/-- The access of a target in a direction. -/
def accessOf (t : Target) (dir : Dir) : Access :=
  ⟨BitVec.ofNat 32 (targetPlace t).1, (targetPlace t).2, dir⟩

theorem targetPlace_lt (t : Target) : (targetPlace t).1 < 2 ^ 32 := by
  cases t with
  | reg r => have := Reg.index_le r; rw [targetPlace]; omega
  | ath i | cipher i | blockbuf i | pcmbuf i => have := i.isLt; rw [targetPlace]; omega

theorem target_accessOf (t : Target) (dir : Dir) :
    target (accessOf t dir).addr.toNat (accessOf t dir).width = some t := by
  rw [accessOf, BitVec.toNat_ofNat, Nat.mod_eq_of_lt (targetPlace_lt t)]
  exact target_targetPlace t

/-- An access that reaches a target is the access of that target. -/
theorem accessOf_of_target {a : Access} {t : Target} {dir : Dir}
    (h : target a.addr.toNat a.width = some t) (hdir : a.dir = dir) : accessOf t dir = a := by
  rw [accessOf, targetPlace_of_target h, BitVec.ofNat_toNat, BitVec.setWidth_eq, ← hdir]

/-! ### Command words -/

theorem encode_decodeCommand (x : Word) : encode (decodeCommand x) = cmdSource x := by
  unfold decodeCommand
  split
  case h_6 => rfl
  all_goals
    rename_i hx
    exact congrArg cmdSource (BitVec.eq_of_toNat_eq hx.symm)

theorem decodeCommand_of_reserved {x : Word} (h : reservedWord x = true) : decodeCommand x = .reservedCmd x := by
  have hx : 4 < x.toNat := of_decide_eq_true h
  unfold decodeCommand
  split
  case h_6 => rfl
  all_goals omega

theorem decode_cmdSource (x : Word) : decode (cmdSource x) = decodeCommand x := by
  have h := target_accessOf (.reg .cmd) (.write x)
  change decodeAccess (accessOf (.reg .cmd) (.write x)) = _
  rw [decodeAccess, h]
  rfl

/-! ### Accesses -/

/-- What a byte write stores is the written value where that is below 256 (spec/46_commands.md R171). -/
theorem setWidth_setWidth_byte {v : Word} (h : v.toNat < 256) : (v.setWidth 8).setWidth 32 = v := by
  apply BitVec.eq_of_toNat_eq
  rw [BitVec.toNat_setWidth, BitVec.toNat_setWidth]
  omega

theorem setWidth_byte (v : Byte) : (v.setWidth 32).setWidth 8 = v := by
  apply BitVec.eq_of_toNat_eq
  have := v.isLt
  rw [BitVec.toNat_setWidth, BitVec.toNat_setWidth]
  omega

/-- Settles O2: each branch of the decoder knows the target that the access reaches, and so the access. -/
theorem encodeOfDecodedAccess : Obligations.EncodeOfDecodedAccess := by
  intro a hbyte
  have hvalue {t : Target} {v : Word} (ht : target a.addr.toNat a.width = some t) (hdir : a.dir = .write v)
      (hw : (targetPlace t).2 = 8) : (v.setWidth 8).setWidth 32 = v := by
    refine setWidth_setWidth_byte (hbyte v hdir ?_)
    rw [← hw, targetPlace_of_target ht]
  change encode (decodeAccess a) = _
  unfold decodeAccess
  split
  case h_1 => rfl
  case h_2 x ht hdir =>
    rw [encode_decodeCommand]
    exact congrArg Source.access (accessOf_of_target ht hdir)
  case h_3 r ht hdir =>
    split
    · exact congrArg Source.access (accessOf_of_target ht hdir)
    · rfl
  case h_4 r v _ ht hdir =>
    split
    · exact congrArg Source.access (accessOf_of_target ht hdir)
    · rfl
  case h_5 i ht hdir | h_7 i ht hdir | h_9 i ht hdir | h_11 i ht hdir =>
    exact congrArg Source.access (accessOf_of_target ht hdir)
  case h_6 i v ht hdir | h_8 i v ht hdir | h_10 i v ht hdir =>
    rw [encode, hvalue ht hdir rfl]
    exact congrArg Source.access (accessOf_of_target ht hdir)
  case h_12 => rfl

/-- The instruction that reads a target. -/
def readInstr : Target → Instr
  | .reg r => .regRead r
  | .ath i => .athRead i
  | .cipher i => .cipherRead i
  | .blockbuf i => .blockbufRead i
  | .pcmbuf w => .pcmbufRead w

theorem decode_read (t : Target) (h : ∀ r, t = .reg r → r.readable = true) :
    decode (.access (accessOf t .read)) = readInstr t := by
  rw [decode, decodeAccess, target_accessOf]
  cases t with
  | reg r => cases r <;> exact if_pos (h _ rfl)
  | ath | cipher | blockbuf | pcmbuf => rfl

theorem decode_regWrite {r : Reg} (h : r.writable = true) (v : Word) :
    decode (.access (accessOf (.reg r) (.write v))) = .regWrite r v := by
  rw [decode, decodeAccess, target_accessOf]
  cases r with
  | cmd => cases h
  | _ => exact if_pos h

theorem decode_athWrite (i : Idx) (v : Word) :
    decode (.access (accessOf (.ath i) (.write v))) = .athWrite i (v.setWidth 8) := by
  rw [decode, decodeAccess, target_accessOf]
  rfl

theorem decode_cipherWrite (i : Fin 256) (v : Word) :
    decode (.access (accessOf (.cipher i) (.write v))) = .cipherWrite i (v.setWidth 8) := by
  rw [decode, decodeAccess, target_accessOf]
  rfl

theorem decode_blockbufWrite (i : Fin 65535) (v : Word) :
    decode (.access (accessOf (.blockbuf i) (.write v))) = .blockbufWrite i (v.setWidth 8) := by
  rw [decode, decodeAccess, target_accessOf]
  rfl

/-- An instruction of the host's side is encoded as the access it is decoded from. -/
theorem decode_encode_host {i : Instr} (h : HostInstr i) :
    ∃ a, encode i = .access a ∧ decode (.access a) = i := by
  cases h with
  | nop | reset | configure | decodeBlock | ack => exact ⟨_, rfl, decode_cmdSource _⟩
  | reservedCmd hx => exact ⟨_, rfl, (decode_cmdSource _).trans (decodeCommand_of_reserved hx)⟩
  | @regRead r hr => exact ⟨_, rfl, decode_read (.reg r) (by rintro _ ⟨⟩; exact hr)⟩
  | athRead i => exact ⟨_, rfl, decode_read (.ath i) nofun⟩
  | cipherRead i => exact ⟨_, rfl, decode_read (.cipher i) nofun⟩
  | blockbufRead i => exact ⟨_, rfl, decode_read (.blockbuf i) nofun⟩
  | pcmbufRead w => exact ⟨_, rfl, decode_read (.pcmbuf w) nofun⟩
  | regWrite hr v => exact ⟨_, rfl, decode_regWrite hr v⟩
  | athWrite i v => exact ⟨_, rfl, (decode_athWrite i _).trans (congrArg _ (setWidth_byte v))⟩
  | cipherWrite i v => exact ⟨_, rfl, (decode_cipherWrite i _).trans (congrArg _ (setWidth_byte v))⟩
  | blockbufWrite i v => exact ⟨_, rfl, (decode_blockbufWrite i _).trans (congrArg _ (setWidth_byte v))⟩
  | badAccess ha => exact ⟨_, rfl, decodeAccess_bad ha⟩

end Sys2Proof.Machine
end

section
/-! SUPPORT. The code words (spec/30_encoding.md R93-R97): how a code word is found again in the bits that follow it,
and what the codes of a resolution with a magnitude have in common. -/

namespace Sys2Proof.Machine

open Sys2Proof.Laws

/-! ### A code word and the bits after it -/

theorem toNat_resolution {s : Nat} (hs : s ≤ 15) : (BitVec.ofNat 4 s).toNat = s :=
  (BitVec.toNat_ofNat s 4).trans (Nat.mod_eq_of_lt (by omega))

theorem decode_code (d : Slot) {s : Nat} (hs : s ≤ 15) (bits : List Bool) :
    decode (.stream (.code d (BitVec.ofNat 4 s)) bits) = decodeCode d s (readBits bits 0 (maxBits s)) := by
  rw [decode, decodeField, toNat_resolution hs]

variable {d : Slot} {s len code : Nat} {i : Instr} {rest : List Bool}

/-- A code word as long as the peek width is the peeked value. -/
theorem decode_encode_full (hs : s ≤ 15) (henc : encode i = codeSource d s (maxBits s) code)
    (hcode : code < 2 ^ maxBits s) (hdec : decodeCode d s code = i) :
    decode ((encode i).extend rest) = i := by
  rw [henc, codeSource, Source.extend, decode_code d hs, readBits_msbBits_head rest hcode, hdec]

/-- A code word one bit shorter than the peek width is found whatever the bit after it (R96). -/
theorem decode_encode_short (hs : s ≤ 15) (hlen : maxBits s = len + 1) (henc : encode i = codeSource d s len code)
    (hcode : code < 2 ^ len) (hdec : ∀ b : Bool, decodeCode d s (2 * code + b.toNat) = i) (hrest : rest ≠ []) :
    decode ((encode i).extend rest) = i := by
  obtain ⟨b, rest, rfl⟩ := List.exists_cons_of_ne_nil hrest
  have hpeek : readBits ((msbBits len code ++ [b]) ++ rest) 0 (maxBits s) = 2 * code + b.toNat := by
    rw [readBits_all (by simp [hlen]), bitsValue_append_singleton, bitsValue_msbBits_of_lt hcode]
  rw [List.append_assoc, List.singleton_append] at hpeek
  rw [henc, codeSource, Source.extend, decode_code d hs, hpeek, hdec]

/-! ### Resolutions 8..15 -/

/-- The code words of a resolution `s` of 8..15: a zero code of `n` bits, and magnitudes of `n` bits with a sign
(spec/30_encoding.md R97, spec/42_dequant.md R131). -/
structure LargeCodes (n s : Nat) (zero : Slot → Instr) (mk : Slot → BitVec n → Bool → Instr) : Prop where
  width : maxBits s = n + 1
  decode : ∀ d v, decodeCode d s v
    = if v / 2 = 0 then zero d else mk d (BitVec.ofNat n (v / 2)) (v % 2 == 1)
  encode_zero : ∀ d, encode (zero d) = codeSource d s n 0
  encode_mk : ∀ d mag neg, encode (mk d mag neg) = codeSource d s (n + 1) (2 * mag.toNat + neg.toNat)
  length_zero : ∀ d, bitLength (zero d) = n
  length_mk : ∀ d mag neg, bitLength (mk d mag neg) = n + 1
  wf_zero : ∀ d, (zero d).wf = true
  wf_mk : ∀ d mag neg, (mk d mag neg).wf = (mag != 0)
  exec_zero : ∀ d t, exec (zero d) t = .next (opCode d.ch.val d.i.val n 0 t)
  exec_mk : ∀ d mag neg t,
    exec (mk d mag neg) t = .next (opCode d.ch.val d.i.val (n + 1) (if neg then -(mag.toNat : Int) else mag.toNat) t)

theorem largeCodes8 : LargeCodes 4 8 .codeR8Zero .codeR8Mag := by constructor <;> intros <;> rfl

theorem largeCodes9 : LargeCodes 5 9 .codeR9Zero .codeR9Mag := by constructor <;> intros <;> rfl

theorem largeCodes10 : LargeCodes 6 10 .codeR10Zero .codeR10Mag := by constructor <;> intros <;> rfl

theorem largeCodes11 : LargeCodes 7 11 .codeR11Zero .codeR11Mag := by constructor <;> intros <;> rfl

theorem largeCodes12 : LargeCodes 8 12 .codeR12Zero .codeR12Mag := by constructor <;> intros <;> rfl

theorem largeCodes13 : LargeCodes 9 13 .codeR13Zero .codeR13Mag := by constructor <;> intros <;> rfl

theorem largeCodes14 : LargeCodes 10 14 .codeR14Zero .codeR14Mag := by constructor <;> intros <;> rfl

theorem largeCodes15 : LargeCodes 11 15 .codeR15Zero .codeR15Mag := by constructor <;> intros <;> rfl

/-- Every resolution 8..15 has such code words. -/
theorem exists_largeCodes (hs8 : 8 ≤ s) (hs : s ≤ 15) : ∃ n zero mk, LargeCodes n s zero mk := by
  interval_cases s
  exacts [⟨_, _, _, largeCodes8⟩, ⟨_, _, _, largeCodes9⟩, ⟨_, _, _, largeCodes10⟩, ⟨_, _, _, largeCodes11⟩,
    ⟨_, _, _, largeCodes12⟩, ⟨_, _, _, largeCodes13⟩, ⟨_, _, _, largeCodes14⟩, ⟨_, _, _, largeCodes15⟩]

section Large

variable {n : Nat} {zero : Slot → Instr} {mk : Slot → BitVec n → Bool → Instr}

theorem half_magnitude (m : Nat) (b : Bool) : (2 * m + b.toNat) / 2 = m := by
  have := b.toNat_lt
  omega

theorem parity_magnitude (m : Nat) (b : Bool) : ((2 * m + b.toNat) % 2 == 1) = b := by
  cases b <;> simp

theorem LargeCodes.decode_encode_zero (h : LargeCodes n s zero mk) (hs : s ≤ 15) (hrest : rest ≠ []) :
    Sys2Proof.decode ((encode (zero d)).extend rest) = zero d := by
  refine decode_encode_short hs h.width (h.encode_zero d) (Nat.two_pow_pos n) (fun b => ?_) hrest
  rw [h.decode, if_pos (half_magnitude 0 b)]

theorem LargeCodes.decode_encode_mk (h : LargeCodes n s zero mk) (hs : s ≤ 15) {mag : BitVec n} (neg : Bool)
    (hmag : mag ≠ 0) : Sys2Proof.decode ((encode (mk d mag neg)).extend rest) = mk d mag neg := by
  refine decode_encode_full hs (h.width ▸ h.encode_mk d mag neg) ?_ ?_
  · have := mag.isLt
    have := neg.toNat_lt
    rw [h.width, Nat.pow_succ]
    omega
  · have hne : mag.toNat ≠ 0 := fun h0 => hmag (BitVec.eq_of_toNat_eq h0)
    rw [h.decode, half_magnitude, parity_magnitude, if_neg hne, BitVec.ofNat_toNat, BitVec.setWidth_eq]

/-- A magnitude below the peek width is held by its field. -/
theorem toNat_magnitude {v : Nat} (hv : v < 2 ^ (n + 1)) : (BitVec.ofNat n (v / 2)).toNat = v / 2 := by
  rw [BitVec.toNat_ofNat, Nat.mod_eq_of_lt]
  rw [Nat.pow_succ] at hv
  omega

theorem LargeCodes.wf_decode (h : LargeCodes n s zero mk) {v : Nat} (hv : v < 2 ^ maxBits s) :
    (decodeCode d s v).wf = true := by
  rw [h.decode]
  split
  case isTrue => exact h.wf_zero d
  case isFalse hne =>
    rw [h.wf_mk, bne_iff_ne]
    intro h0
    exact hne ((toNat_magnitude (h.width ▸ hv)).symm.trans (congrArg BitVec.toNat h0))

/-- The code word that a peeked value begins with is encoded as the beginning of the peeked bits. -/
theorem LargeCodes.encode_decode (h : LargeCodes n s zero mk) {v : Nat} (hv : v < 2 ^ maxBits s) :
    encode (decodeCode d s v)
      = .stream (.code d (BitVec.ofNat 4 s)) ((msbBits (maxBits s) v).take (bitLength (decodeCode d s v))) := by
  rw [h.decode]
  split
  case isTrue h0 =>
    rw [h.encode_zero, h.length_zero, h.width, msbBits_succ, h0, List.take_left' (msbBits_length n 0)]
    rfl
  case isFalse =>
    have hparity : (v % 2 == 1).toNat = v % 2 := by rcases Nat.mod_two_eq_zero_or_one v with h | h <;> rw [h] <;> rfl
    rw [h.encode_mk, h.length_mk, h.width, toNat_magnitude (h.width ▸ hv), hparity, Nat.div_add_mod,
      List.take_of_length_le (msbBits_length _ _).le]
    rfl

/-- The code word found does what DEQUANT does with the length and the value of R131. -/
theorem LargeCodes.exec_decode (h : LargeCodes n s zero mk) {v : Nat} (hv : v < 2 ^ maxBits s) (t : State) :
    exec (decodeCode d s v) t
      = .next (opCode d.ch.val d.i.val (largeCode (maxBits s) v).1 (largeCode (maxBits s) v).2 t) := by
  rw [h.decode, largeCode]
  split
  case isTrue h0 => rw [h.exec_zero, h.width, h0]; simp
  case isFalse => rw [h.exec_mk, h.width, toNat_magnitude (h.width ▸ hv)]; simp

/-- The bits of a magnitude code: the magnitude, then the sign. -/
theorem msbBits_magnitude (mag : BitVec n) (neg : Bool) :
    msbBits (n + 1) (2 * mag.toNat + neg.toNat)
      = (List.range n).map (fun k => mag.getLsbD (n - 1 - k)) ++ [neg] := by
  have hlast : (2 * mag.toNat + neg.toNat).testBit 0 = neg := by
    rw [Nat.testBit_zero]
    exact parity_magnitude _ _
  rw [msbBits_succ, half_magnitude, hlast]
  rfl

theorem LargeCodes.magnitudeCodes (h : LargeCodes n s zero mk) : MagnitudeCodes n s mk := by
  intro d mag neg t _
  refine ⟨?_, _, h.exec_mk d mag neg t, ?_⟩
  · rw [h.encode_mk, codeSource, msbBits_magnitude]
  · have hlen : ((List.range n).map (fun k => mag.getLsbD (n - 1 - k)) ++ [neg]).length = n + 1 := by simp
    rw [hlen]
    refine (opCode_stores t d.i.val (n + 1) _ d.ch.isLt).congr fun j _ => ?_
    by_cases hj : j = d.i.val <;> simp [hj]

end Large

/-! ### Resolutions 0..7 -/

theorem wf_codeRows (d : Slot) {r : CodeRow} (hr : r ∈ codeRows) : (r.instr d).wf = true :=
  have hall : codeRows.map (fun r => (r.instr d).wf) = codeRows.map fun _ => true := rfl
  List.map_inj_left.mp hall r hr

theorem wf_decodeSmall (d : Slot) (s v : Nat) : (decodeSmall d s v).wf = true := by
  unfold decodeSmall
  split
  case h_1 r hfind => exact wf_codeRows d (List.mem_of_find?_eq_some hfind)
  case h_2 => rfl

/-- The same as for the resolutions 8..15, by the table of R96. -/
theorem encode_decodeSmall {v : Nat} (hs : s < 8) (hv : v < 2 ^ maxBits s) :
    encode (decodeCode d s v)
      = .stream (.code d (BitVec.ofNat 4 s)) ((msbBits (maxBits s) v).take (bitLength (decodeCode d s v))) := by
  obtain rfl | hpos := Nat.eq_zero_or_pos s
  · obtain rfl : v = 0 := Nat.lt_one_iff.mp hv
    rfl
  · interval_cases s <;> norm_num [maxBits] at hv <;> interval_cases v <;> rfl

/-- The tables of R94 and R95 give the lengths and values of the code words. -/
theorem exec_decodeSmall {v : Nat} (hs : s < 8) (hv : v < 2 ^ maxBits s) (t : State) :
    exec (decodeCode d s v) t
      = .next (opCode d.ch.val d.i.val (smallCode s v).1 (smallCode s v).2 t) := by
  obtain rfl | hpos := Nat.eq_zero_or_pos s
  · obtain rfl : v = 0 := Nat.lt_one_iff.mp hv
    rfl
  · interval_cases s <;> norm_num [maxBits] at hv <;> interval_cases v <;> rfl

/-! ### Every resolution -/

theorem wf_decodeCode {v : Nat} (hs : s ≤ 15) (hv : v < 2 ^ maxBits s) : (decodeCode d s v).wf = true := by
  by_cases hs8 : s < 8
  · rw [decodeCode, if_pos hs8]
    exact wf_decodeSmall d s v
  · obtain ⟨n, zero, mk, h⟩ := exists_largeCodes (by omega) hs
    exact h.wf_decode hv

theorem encode_decodeCode {v : Nat} (hs : s ≤ 15) (hv : v < 2 ^ maxBits s) :
    encode (decodeCode d s v)
      = .stream (.code d (BitVec.ofNat 4 s)) ((msbBits (maxBits s) v).take (bitLength (decodeCode d s v))) := by
  by_cases hs8 : s < 8
  · exact encode_decodeSmall hs8 hv
  · obtain ⟨n, zero, mk, h⟩ := exists_largeCodes (by omega) hs
    exact h.encode_decode hv

/-- Settles O33: what the magnitude codes of a resolution have in common, for each resolution. -/
theorem codeWordsWithMagnitude : Obligations.CodeWordsWithMagnitude :=
  ⟨largeCodes8.magnitudeCodes, largeCodes9.magnitudeCodes, largeCodes10.magnitudeCodes,
    largeCodes11.magnitudeCodes, largeCodes12.magnitudeCodes, largeCodes13.magnitudeCodes,
    largeCodes14.magnitudeCodes, largeCodes15.magnitudeCodes⟩

/-- The listed bits of each plain code word are its encoding. -/
theorem encode_plainCodeWords (d : Slot) {c : CodeWord} (hc : c ∈ plainCodeWords) :
    encode (c.instr d) = .stream (.code d (BitVec.ofNat 4 c.res)) (c.bits.map (· == 1)) :=
  have hall : plainCodeWords.map (fun c => encode (c.instr d))
      = plainCodeWords.map fun c => .stream (.code d (BitVec.ofNat 4 c.res)) (c.bits.map (· == 1)) := rfl
  List.map_inj_left.mp hall c hc

/-- Each plain code word takes its bits and stores its value. -/
theorem exec_plainCodeWords (d : Slot) (t : State) {c : CodeWord} (hc : c ∈ plainCodeWords) :
    exec (c.instr d) t = .next (opCode d.ch.val d.i.val c.bits.length c.value t) :=
  have hall : plainCodeWords.map (fun c => exec (c.instr d) t)
      = plainCodeWords.map fun c => .next (opCode d.ch.val d.i.val c.bits.length c.value t) := rfl
  List.map_inj_left.mp hall c hc

/-- Settles O32, from the list of the plain code words. -/
theorem codeWordsWithoutMagnitude : Obligations.CodeWordsWithoutMagnitude := by
  intro d t c hc
  refine ⟨encode_plainCodeWords d hc, _, exec_plainCodeWords d t hc, ?_⟩
  rw [List.length_map]
  refine (opCode_stores t d.i.val c.bits.length c.value d.ch.isLt).congr fun j _ => ?_
  by_cases hj : j = d.i.val <;> simp [hj]

end Sys2Proof.Machine
end

section
/-! SUPPORT. Decoding and encoding undo each other (spec/30_encoding.md): the block fields, and then every
instruction. -/

namespace Sys2Proof.Machine

open Sys2Proof.Laws

/-! ### The block fields -/

section Fields

variable (ch : Chan) (i : Idx) (rest : List Bool)

theorem decode_sync (v : BitVec 16) : decode (.stream .header (msbBits 16 v.toNat ++ rest)) = .sync v := by
  rw [decode, decodeField, readBits_msbBits_head rest v.isLt, BitVec.ofNat_toNat, BitVec.setWidth_eq]

theorem decode_noise (hi : BitVec 9) (lo : BitVec 7) :
    decode (.stream .noise ((msbBits 9 hi.toNat ++ msbBits 7 lo.toNat) ++ rest)) = .noise hi lo := by
  rw [List.append_assoc, decode, decodeField, readBits_msbBits_head _ hi.isLt,
    readBits_msbBits (msbBits 9 hi.toNat) rest (msbBits_length _ _).symm lo.isLt]
  simp

theorem decode_sfmode (m : BitVec 3) : decode (.stream (.sfmode ch) (msbBits 3 m.toNat ++ rest)) = .sfmode ch m := by
  rw [decode, decodeField, readBits_msbBits_head rest m.isLt, BitVec.ofNat_toNat, BitVec.setWidth_eq]

theorem decode_sfRaw (vs : List (BitVec 6)) :
    decode (.stream (.payload ch 6 vs.length) ((vs.flatMap fun v => msbBits 6 v.toNat) ++ rest))
      = .sfRaw ch vs := by
  have hvs := fieldList_flatMap_msbBits vs rest
  rw [decode, decodeField, hvs]
  rfl

theorem decode_sfFirst (v : BitVec 6) :
    decode (.stream (.payload ch 1 0) (msbBits 6 v.toNat ++ rest)) = .sfFirst ch v := by
  rw [decode, decodeField, readBits_msbBits_head rest v.isLt, BitVec.ofNat_toNat, BitVec.setWidth_eq]
  rfl

theorem decode_sfDelta {m : BitVec 3} {d : BitVec 5} (hd : d.toNat < 2 ^ m.toNat - 1) :
    decode (.stream (.delta ch i m) (msbBits m.toNat d.toNat ++ rest)) = .sfDelta ch i m d := by
  rw [decode, decodeField, readBits_msbBits_head rest (by omega), if_neg (by omega), BitVec.ofNat_toNat,
    BitVec.setWidth_eq]

theorem decode_sfEscape (m : BitVec 3) (v : BitVec 6) :
    decode (.stream (.delta ch i m) ((msbBits m.toNat (2 ^ m.toNat - 1) ++ msbBits 6 v.toNat) ++ rest))
      = .sfEscape ch i m v := by
  have hpos := Nat.two_pow_pos m.toNat
  rw [List.append_assoc, decode, decodeField, readBits_msbBits_head _ (by omega), if_pos rfl,
    readBits_msbBits (msbBits m.toNat _) rest (msbBits_length _ _).symm v.isLt, BitVec.ofNat_toNat,
    BitVec.setWidth_eq]

theorem decode_intensitySet {vs : List (BitVec 4)} (hlen : vs.length = 8) (hhead : vs.head? ≠ some 15) :
    decode (.stream (.intensity ch) ((vs.flatMap fun v => msbBits 4 v.toNat) ++ rest)) = .intensitySet ch vs := by
  have hvs := fieldList_flatMap_msbBits vs rest
  rw [hlen] at hvs
  have hfirst : readBits ((vs.flatMap fun v => msbBits 4 v.toNat) ++ rest) 0 4 < 15 := by
    obtain ⟨v, vs, rfl⟩ := List.exists_cons_of_length_eq_add_one hlen
    rw [List.flatMap_cons, List.append_assoc, readBits_msbBits_head _ v.isLt]
    have hne : v.toNat ≠ 15 := fun h => hhead (congrArg some (BitVec.eq_of_toNat_eq h))
    have := v.isLt
    omega
  rw [decode, decodeField, if_pos hfirst, hvs]

theorem decode_intensityAll15 : decode (.stream (.intensity ch) (msbBits 4 15 ++ rest)) = .intensityAll15 ch := by
  rw [decode, decodeField, readBits_msbBits_head rest (by decide), if_neg (by decide)]

theorem decode_hfrScale (vs : List (BitVec 6)) :
    decode (.stream (.hfrScales ch vs.length) ((vs.flatMap fun v => msbBits 6 v.toNat) ++ rest))
      = .hfrScale ch vs := by
  rw [decode, decodeField, fieldList_flatMap_msbBits vs rest]

theorem decode_blockChecksum (v : BitVec 16) :
    decode (.stream .checksum (msbBits 16 v.toNat ++ rest)) = .blockChecksum v := by
  rw [decode, decodeField, readBits_msbBits_head rest v.isLt, BitVec.ofNat_toNat, BitVec.setWidth_eq]

end Fields

/-! ### Every instruction -/

theorem decode_extend_host {i : Instr} (h : HostInstr i) (rest : List Bool) :
    decode ((encode i).extend rest) = i := by
  obtain ⟨a, henc, hdec⟩ := decode_encode_host h
  rw [henc]
  exact hdec

/-- Settles O1: the host's side by its targets, the block fields one by one, the code words of resolutions 0..7 as
long as the peek width or one bit shorter, and those of resolutions 8..15 by what they have in common. -/
theorem decodeOfEncode : Obligations.DecodeOfEncode := by
  intro i hwf rest hrest
  cases i with
  | nop => exact decode_extend_host .nop rest
  | reset => exact decode_extend_host .reset rest
  | configure => exact decode_extend_host .configure rest
  | decodeBlock => exact decode_extend_host .decodeBlock rest
  | ack => exact decode_extend_host .ack rest
  | reservedCmd x => exact decode_extend_host (.reservedCmd hwf) rest
  | regRead r => exact decode_extend_host (.regRead hwf) rest
  | regWrite r v => exact decode_extend_host (.regWrite hwf v) rest
  | athRead i => exact decode_extend_host (.athRead i) rest
  | athWrite i v => exact decode_extend_host (.athWrite i v) rest
  | cipherRead i => exact decode_extend_host (.cipherRead i) rest
  | cipherWrite i v => exact decode_extend_host (.cipherWrite i v) rest
  | blockbufRead i => exact decode_extend_host (.blockbufRead i) rest
  | blockbufWrite i v => exact decode_extend_host (.blockbufWrite i v) rest
  | pcmbufRead w => exact decode_extend_host (.pcmbufRead w) rest
  | badAccess a => exact decode_extend_host (.badAccess hwf) rest
  | descramble | blockStart | stage1 | dequant | hfr | intensity | synth | pcmOut => rfl
  | sync v => exact decode_sync rest v
  | noise hi lo => exact decode_noise rest hi lo
  | sfmode ch m => exact decode_sfmode ch rest m
  | sfZero ch => rfl
  | sfRaw ch vs => exact decode_sfRaw ch rest vs
  | sfFirst ch v => exact decode_sfFirst ch rest v
  | sfDelta ch i m d =>
    have hd : d.toNat < 2 ^ m.toNat - 1 := of_decide_eq_true (Bool.and_eq_true_iff.mp hwf).2
    exact decode_sfDelta ch i rest hd
  | sfEscape ch i m v => exact decode_sfEscape ch i rest m v
  | intensitySet ch vs =>
    obtain ⟨hlen, hhead⟩ := Bool.and_eq_true_iff.mp hwf
    exact decode_intensitySet ch rest (of_decide_eq_true hlen) (of_decide_eq_true hhead)
  | intensityAll15 ch => exact decode_intensityAll15 ch rest
  | hfrScale ch vs => exact decode_hfrScale ch rest vs
  | blockChecksum v => exact decode_blockChecksum rest v
  | codeR1Zero | codeR2Zero | codeR2P1 | codeR2M1 | codeR3Zero
  | codeR4Zero | codeR4P1 | codeR4M1 | codeR4P2 | codeR4M2 | codeR4P3 | codeR4M3
  | codeR5Zero | codeR5P1 | codeR5M1 | codeR5P2 | codeR5M2
  | codeR6Zero | codeR6P1 | codeR6M1 | codeR7Zero =>
    exact decode_encode_short (by decide) rfl rfl (by decide) (by rintro (_ | _) <;> rfl) hrest
  | codeR0 | codeR1P1 | codeR1M1 | codeR2P2 | codeR2M2
  | codeR3P1 | codeR3M1 | codeR3P2 | codeR3M2 | codeR3P3 | codeR3M3 | codeR4P4 | codeR4M4
  | codeR5P3 | codeR5M3 | codeR5P4 | codeR5M4 | codeR5P5 | codeR5M5
  | codeR6P2 | codeR6M2 | codeR6P3 | codeR6M3 | codeR6P4 | codeR6M4 | codeR6P5 | codeR6M5 | codeR6P6 | codeR6M6
  | codeR7P1 | codeR7M1 | codeR7P2 | codeR7M2 | codeR7P3 | codeR7M3 | codeR7P4 | codeR7M4 | codeR7P5 | codeR7M5
  | codeR7P6 | codeR7M6 | codeR7P7 | codeR7M7 =>
    exact decode_encode_full (by decide) rfl (by decide) rfl
  | codeR8Zero d => exact largeCodes8.decode_encode_zero (by decide) hrest
  | codeR8Mag d mag neg => exact largeCodes8.decode_encode_mk (by decide) neg (bne_iff_ne.mp hwf)
  | codeR9Zero d => exact largeCodes9.decode_encode_zero (by decide) hrest
  | codeR9Mag d mag neg => exact largeCodes9.decode_encode_mk (by decide) neg (bne_iff_ne.mp hwf)
  | codeR10Zero d => exact largeCodes10.decode_encode_zero (by decide) hrest
  | codeR10Mag d mag neg => exact largeCodes10.decode_encode_mk (by decide) neg (bne_iff_ne.mp hwf)
  | codeR11Zero d => exact largeCodes11.decode_encode_zero (by decide) hrest
  | codeR11Mag d mag neg => exact largeCodes11.decode_encode_mk (by decide) neg (bne_iff_ne.mp hwf)
  | codeR12Zero d => exact largeCodes12.decode_encode_zero (by decide) hrest
  | codeR12Mag d mag neg => exact largeCodes12.decode_encode_mk (by decide) neg (bne_iff_ne.mp hwf)
  | codeR13Zero d => exact largeCodes13.decode_encode_zero (by decide) hrest
  | codeR13Mag d mag neg => exact largeCodes13.decode_encode_mk (by decide) neg (bne_iff_ne.mp hwf)
  | codeR14Zero d => exact largeCodes14.decode_encode_zero (by decide) hrest
  | codeR14Mag d mag neg => exact largeCodes14.decode_encode_mk (by decide) neg (bne_iff_ne.mp hwf)
  | codeR15Zero d => exact largeCodes15.decode_encode_zero (by decide) hrest
  | codeR15Mag d mag neg => exact largeCodes15.decode_encode_mk (by decide) neg (bne_iff_ne.mp hwf)

/-! ### What the decoder produces -/

theorem wf_decodeSeqOp {op : SeqOp} (h : (Source.sequencer op).wf = true) : (decodeSeqOp op).wf = true := by
  cases op with
  | intensity ch sf => exact h
  | _ => rfl

/-- A delta code that is not all ones is below that (spec/30_encoding.md R87). -/
theorem wf_decodeField_delta {ch : Chan} {i : Idx} {m : BitVec 3} (h : (Context.delta ch i m).wf = true)
    (bits : List Bool) : (decodeField (.delta ch i m) (readBits bits)).wf = true := by
  rw [decodeField]
  split
  case isTrue => exact h
  case isFalse hne =>
    have hlt := readBits_lt bits 0 m.toNat
    have hmod : (BitVec.ofNat 5 (readBits bits 0 m.toNat)).toNat ≤ readBits bits 0 m.toNat :=
      (BitVec.toNat_ofNat _ 5).trans_le (Nat.mod_le _ _)
    refine Bool.and_eq_true_iff.mpr ⟨h, decide_eq_true ?_⟩
    omega

/-- The first of eight intensity values is not 15 where the look-ahead is not (spec/30_encoding.md R88). -/
theorem wf_decodeField_intensity (ch : Chan) (bits : List Bool) :
    (decodeField (.intensity ch) (readBits bits)).wf = true := by
  rw [decodeField]
  split
  case isTrue hlt =>
    have hhead : (fieldList (readBits bits) 4 8).head? = some (BitVec.ofNat 4 (readBits bits 0 4)) := rfl
    refine Bool.and_eq_true_iff.mpr ⟨decide_eq_true (fieldList_length (readBits bits) 4 8), decide_eq_true ?_⟩
    rw [hhead]
    intro h15
    have hval := congrArg BitVec.toNat (Option.some.inj h15)
    rw [BitVec.toNat_ofNat, Nat.mod_eq_of_lt (readBits_lt bits 0 4)] at hval
    exact absurd hval (by simpa using hlt.ne)
  case isFalse => rfl

theorem wf_decodeField {c : Context} (h : c.wf = true) (bits : List Bool) :
    (decodeField c (readBits bits)).wf = true := by
  cases c with
  | header | noise | sfmode | checksum => rfl
  | payload ch mode count =>
    rw [decodeField]
    split_ifs
    · rfl
    · exact decide_eq_true ((fieldList_length _ _ _).trans_le (of_decide_eq_true h))
    · rfl
  | delta ch i m => exact wf_decodeField_delta h bits
  | intensity ch => exact wf_decodeField_intensity ch bits
  | hfrScales ch groups => exact decide_eq_true ((fieldList_length _ _ _).trans_le (of_decide_eq_true h))
  | code slot res => exact wf_decodeCode (Nat.le_of_lt_succ res.isLt) (readBits_lt _ _ _)

/-- Settles O3, for the host's side, the block fields and the sequence. -/
theorem decodedIsWellFormed : Obligations.DecodedIsWellFormed := by
  intro src h
  cases src with
  | access a => exact (hostInstr_decode a).wf
  | stream c bits => exact wf_decodeField h bits
  | sequencer op => exact wf_decodeSeqOp h

/-- Settles O4: the code word is the decoded one, and any other that the bits begin with decodes to it too. -/
theorem everyPatternHasOneCodeWord : Obligations.EveryPatternHasOneCodeWord := by
  intro d s bits _ hs hlen
  have hlt : bitsValue bits < 2 ^ maxBits s := hlen ▸ bitsValue_lt bits
  refine ⟨decodeCode d s (bitsValue bits), wf_decodeCode hs hlt, ?_, fun j n hwf hj => ?_⟩
  · have henc := encode_decodeCode (d := d) hs hlt
    rwa [← hlen, msbBits_bitsValue] at henc
  · have hdec := decodeOfEncode j hwf (bits.drop n ++ [false]) (by simp)
    rw [hj, Source.extend, ← List.append_assoc, List.take_append_drop, decode_code d hs, readBits_all hlen] at hdec
    exact hdec.symm

/-- Settles O5: nine closed words, each decoded by evaluation. -/
theorem sampleWordsDecode : Obligations.SampleWordsDecode := by
  unfold Obligations.SampleWordsDecode
  decide

/-- Settles O28, by what the operations of the payloads store. -/
theorem scaleFactorPayloads : Obligations.ScaleFactorPayloads := by
  intro s ch
  refine ⟨fun _ => rfl, fun mode count bits => ⟨?_, fun h6 => ?_, fun h1 h5 => ?_⟩,
    ⟨_, rfl, opSfZero_stores s ch.isLt⟩, fun vs _ => ⟨_, rfl, opSfRaw_stores s vs ch.isLt⟩⟩
  · rintro rfl
    rfl
  · refine ⟨fieldList (readBits bits) 6 count, ?_, fieldList_length _ 6 count⟩
    rw [decode, decodeField, if_neg (by omega), if_pos h6]
  · refine ⟨BitVec.ofNat 6 (readBits bits 0 6), ?_⟩
    rw [decode, decodeField, if_neg (by omega), if_neg (by omega)]

end Sys2Proof.Machine
end

section
/-! SUPPORT. The bit reader delivers the bits of the block (spec/40_bitreader.md R106-R108): a field read from the
memory is the value of the block's bits from its position on. -/

namespace Sys2Proof.Machine

open Sys2Proof.Laws

/-- The `n` bits of the block from position `p` on. -/
def State.blockBits (s : State) (p n : Nat) : List Bool := (List.range' p n).map s.blockBit

@[simp] theorem State.blockBits_length (s : State) (p n : Nat) : (s.blockBits p n).length = n := by
  simp [State.blockBits]

theorem State.blockBits_add (s : State) (p m n : Nat) :
    s.blockBits p (m + n) = s.blockBits p m ++ s.blockBits (p + m) n := by
  rw [State.blockBits, ← List.range'_append_1, List.map_append]
  rfl

/-- The eight bits of one byte of the block. -/
theorem State.bitsValue_blockByte (s : State) (b : Nat) :
    bitsValue (s.blockBits (8 * b) 8) = (s.blockByte b).toNat := by
  have hbits : s.blockBits (8 * b) 8 = msbBits 8 (s.blockByte b).toNat := by
    refine List.ext_getElem (by simp) fun k hk _ => ?_
    have hk8 : k < 8 := by simpa using hk
    have hdiv : (8 * b + k) / 8 = b := by omega
    have hmod : (8 * b + k) % 8 = k := by omega
    simp [State.blockBits, msbBits, State.blockBit, hdiv, hmod, BitVec.testBit_toNat]
  rw [hbits, bitsValue_msbBits_of_lt (s.blockByte b).isLt]

/-- Three bytes of the block as one number. -/
theorem State.bitsValue_threeBytes (s : State) (b : Nat) :
    bitsValue (s.blockBits (8 * b) 24)
      = (s.blockByte b).toNat * 65536 + (s.blockByte (b + 1)).toNat * 256 + (s.blockByte (b + 2)).toNat := by
  have hsplit : s.blockBits (8 * b) 24
      = (s.blockBits (8 * b) 8 ++ s.blockBits (8 * (b + 1)) 8) ++ s.blockBits (8 * (b + 2)) 8 := by
    rw [show 8 * (b + 1) = 8 * b + 8 by ring, ← State.blockBits_add,
      show 8 * (b + 2) = 8 * b + (8 + 8) by ring, ← State.blockBits_add]
  rw [hsplit, bitsValue_append, bitsValue_append]
  simp only [State.bitsValue_blockByte, State.blockBits_length]
  ring

/-- Masking away the first bits of a list of bits and shifting away the last leaves those between. -/
theorem bitsValue_mask_shift (pre field post : List Bool) :
    bitsValue (pre ++ (field ++ post)) % 2 ^ (field.length + post.length) / 2 ^ post.length = bitsValue field := by
  have hlt := bitsValue_lt (field ++ post)
  rw [List.length_append] at hlt
  rw [bitsValue_append pre, List.length_append, Nat.mul_comm, Nat.mul_add_mod, Nat.mod_eq_of_lt hlt,
    bitsValue_append field, Nat.mul_comm, Nat.mul_add_div (Nat.two_pow_pos _), Nat.div_eq_of_lt (bitsValue_lt post),
    Nat.add_zero]

theorem mask_eq {o : Nat} (ho : o < 8) : 0xFFFFFF >>> o = 2 ^ (24 - o) - 1 := by
  interval_cases o <;> rfl

/-- A field before BITLIMIT is the value of its bits (R107). -/
theorem State.peekAt_eq_bitsValue (s : State) {p n : Nat} (hn : n ≤ 16) (hlimit : p + n ≤ s.bitLimit) :
    s.peekAt p n = bitsValue (s.blockBits p n) := by
  obtain rfl | hpos := Nat.eq_zero_or_pos n
  · simp [State.peekAt, State.blockBits]
  · have ho : p % 8 < 8 := Nat.mod_lt p (by decide)
    have hsplit : s.blockBits (8 * (p / 8)) 24
        = s.blockBits (8 * (p / 8)) (p % 8) ++ (s.blockBits p n ++ s.blockBits (p + n) (24 - p % 8 - n)) := by
      have hfill : n + (24 - p % 8 - n) = 24 - p % 8 := by omega
      have hstart : 8 * (p / 8) + p % 8 = p := Nat.div_add_mod p 8
      have hall : p % 8 + (24 - p % 8) = 24 := by omega
      rw [← State.blockBits_add, hfill]
      have hadd := s.blockBits_add (8 * (p / 8)) (p % 8) (24 - p % 8)
      rwa [hall, hstart] at hadd
    have hfield := bitsValue_mask_shift (s.blockBits (8 * (p / 8)) (p % 8)) (s.blockBits p n)
      (s.blockBits (p + n) (24 - p % 8 - n))
    simp only [State.blockBits_length, ← hsplit] at hfield
    rw [show n + (24 - p % 8 - n) = 24 - p % 8 by omega, State.bitsValue_threeBytes,
      ← Nat.and_two_pow_sub_one_eq_mod, ← mask_eq ho, ← Nat.shiftRight_eq_div_pow] at hfield
    rw [State.peekAt, if_neg (by omega), if_neg (by omega)]
    exact hfield

/-- The reader on the memory is the reader on the list of the bits ahead. -/
theorem State.reader_eq_readBits (s : State) {off n : Nat} (hn : n ≤ 16) :
    s.reader off n = readBits s.bitsAhead off n := by
  have hlen : s.bitsAhead.length = s.bitLimit - s.bitPos := by simp [State.bitsAhead]
  rw [State.reader, readBits, hlen]
  by_cases hlimit : s.bitPos + off + n ≤ s.bitLimit
  · have hsplit : s.bitsAhead = s.blockBits s.bitPos off
        ++ (s.blockBits (s.bitPos + off) n ++ s.blockBits (s.bitPos + off + n) (s.bitLimit - s.bitPos - off - n)) := by
      rw [← State.blockBits_add, ← State.blockBits_add]
      unfold State.bitsAhead State.blockBits
      congr 2
      omega
    rw [State.peekAt_eq_bitsValue s hn hlimit, if_neg (by omega), hsplit,
      List.drop_left' (State.blockBits_length ..), List.take_left' (State.blockBits_length ..)]
  · rw [State.peekAt_beyond s (by omega)]
    obtain rfl | hpos := Nat.eq_zero_or_pos n
    · simp
    · rw [if_pos (by omega)]

/-- Settles O31: a read before BITLIMIT sees bytes before the last two only. -/
theorem checksumIsNeverRead : Obligations.ChecksumIsNeverRead := by
  refine ⟨fun _ _ => rfl, fun s s' n hn hlimit hlimit' hpos hbytes => ?_⟩
  rw [State.peek, State.peek, hpos]
  by_cases hin : s.bitPos + n ≤ s.bitLimit
  · rw [State.peekAt_eq_bitsValue s hn hin, State.peekAt_eq_bitsValue s' hn (hlimit' ▸ hin)]
    refine congrArg bitsValue (List.map_congr_left fun p hp => ?_)
    have hlt := (List.mem_range'_1.mp hp).2
    rw [State.blockBit, hbytes (p / 8) (by omega)]
    rfl
  · rw [State.peekAt_beyond s (by omega), State.peekAt_beyond s' (by omega)]

end Sys2Proof.Machine
end

section
/-! SUPPORT. The stages that read the block are runs of decoded instructions: STAGE1 of its block fields
(spec/30_encoding.md R84-R89) and DEQUANT of its code words (R90), each decoded from the bits at BITPOS. -/

namespace Sys2Proof.Machine

/-! ### Runs of a list of items -/

theorem runItems_faulted (l : List SeqItem) {s : State} (h : s.phase = .faulted) : runItems l s = .next s := by
  cases l with
  | nil => rfl
  | cons x l => rw [runItems, if_pos h]

theorem runItems_cons {x : SeqItem} (l : List SeqItem) {s t : State} (hp : s.phase ≠ .faulted)
    (h : exec (x.instr s) s = .next t) : runItems (x :: l) s = runItems l t := by
  rw [runItems, if_neg hp, h]

/-- A run of one list and then another. -/
theorem runItems_append {l l' : List SeqItem} {s t : State} (h : runItems l s = .next t) :
    runItems (l ++ l') s = runItems l' t := by
  induction l generalizing s with
  | nil =>
    obtain rfl := Host.Outcome.next.inj h
    rfl
  | cons x l ih =>
    by_cases hp : s.phase = .faulted
    · obtain rfl := Host.Outcome.next.inj ((runItems_faulted _ hp).symm.trans h)
      rw [runItems_faulted _ hp, runItems_faulted _ hp]
    · rw [runItems, if_neg hp] at h
      rw [List.cons_append, runItems, if_neg hp]
      cases hx : exec (x.instr s) s with
      | next u => exact ih (by rwa [hx] at h)
      | fault r => rw [hx] at h; cases h
      | refused r => rw [hx] at h; cases h

/-- A run of items that each do one pass of a loop is the loop. -/
theorem runItems_map {α : Type} {l : List α} {item : α → SeqItem} {f : α → State → State} {P : State → Prop}
    (hexec : ∀ a ∈ l, ∀ s, P s → exec ((item a).instr s) s = .next (f a s))
    (hkeep : ∀ a ∈ l, ∀ s, P s → P (f a s)) {s : State} (h : P s) :
    runItems (l.map item) s = .next (forEach l f s) := by
  induction l generalizing s with
  | nil => rfl
  | cons a l ih =>
    rw [List.map_cons, forEach_cons]
    by_cases hp : s.phase = .faulted
    · rw [runItems_faulted _ hp, State.andThen_of_faulted _ hp, forEach_faulted l f hp]
    · rw [runItems_cons _ hp (hexec a List.mem_cons_self s h), State.andThen_of_not_faulted _ hp]
      exact ih (fun b hb => hexec b (List.mem_cons_of_mem a hb)) (fun b hb => hkeep b (List.mem_cons_of_mem a hb))
        (hkeep a List.mem_cons_self s h)

/-- A loop that no fault ends. -/
theorem forEach_eq_foldl {α : Type} {l : List α} {f : α → State → State}
    (hkeep : ∀ a s, (f a s).phase = s.phase) {s : State} (hp : s.phase ≠ .faulted) :
    forEach l f s = l.foldl (fun s a => f a s) s := by
  induction l generalizing s with
  | nil => rfl
  | cons a l ih =>
    rw [forEach_cons, State.andThen_of_not_faulted _ hp, List.foldl_cons]
    exact ih (by rwa [hkeep])

theorem forEach_map {α β : Type} (l : List α) (g : α → β) (f : β → State → State) (s : State) :
    forEach (l.map g) f s = forEach l (fun a => f (g a)) s := List.foldl_map

/-! ### Indices -/

/-- The indices from `lo` on below `hi`, as `Idx` and as numbers. -/
theorem map_val_filter_finRange {n lo hi : Nat} (h : hi ≤ n) :
    ((List.finRange n).filter fun i => decide (lo ≤ i.val ∧ i.val < hi)).map Fin.val = List.range' lo (hi - lo) := by
  have hmap : ((List.finRange n).filter fun i => decide (lo ≤ i.val ∧ i.val < hi)).map Fin.val
      = ((List.finRange n).map Fin.val).filter fun i => decide (lo ≤ i ∧ i < hi) := by
    rw [List.filter_map]
    rfl
  have hand : (fun i => decide (lo ≤ i ∧ i < hi)) = fun i => decide (lo ≤ i) && decide (i < hi) := by
    funext i
    exact Bool.decide_and ..
  rw [hmap, List.map_coe_finRange_eq_range, hand, ← List.filter_filter, ← List.Ico.zero_bot, List.Ico.filter_lt,
    List.Ico.filter_le, Nat.zero_max, Nat.min_eq_right h, List.Ico]

theorem map_val_filter_lt_finRange {n hi : Nat} (h : hi ≤ n) :
    ((List.finRange n).filter fun i => decide (i.val < hi)).map Fin.val = List.range hi := by
  have hfilter := map_val_filter_finRange (lo := 0) h
  simp only [Nat.zero_le, true_and, Nat.sub_zero] at hfilter
  rw [hfilter, List.range_eq_range']

/-! ### DEQUANT -/

theorem peek_eq_readBits (s : State) {n : Nat} (hn : n ≤ 16) : readBits s.bitsAhead 0 n = s.peek n :=
  (s.reader_eq_readBits hn).symm

theorem maxBits_le {r : Nat} (hr : r ≤ 15) : maxBits r ≤ 16 := by interval_cases r <;> decide

/-- The code word decoded at BITPOS does one pass of the loop of R128. -/
theorem exec_code (ch : Chan) (i : Idx) (s : State) :
    exec ((SeqItem.field (.code ⟨ch, i⟩ (entry (s.chan ch.val).res i.val))).instr s) s
      = .next (dequantStep ch.val i.val s) := by
  set res := entry (s.chan ch.val).res i.val with hres
  have hr : res.toNat ≤ 15 := Nat.le_of_lt_succ res.isLt
  have hpeek := s.peek_lt (maxBits res.toNat) ((maxBits_le hr).trans (by decide))
  have hdec : (SeqItem.field (.code ⟨ch, i⟩ res)).instr s
      = decodeCode ⟨ch, i⟩ res.toNat (s.peek (maxBits res.toNat)) := by
    rw [SeqItem.instr, decode, decodeField, peek_eq_readBits s (maxBits_le hr)]
  rw [hdec, dequantStep, ← hres]
  by_cases hr8 : res.toNat < 8
  · rw [exec_decodeSmall hr8 hpeek]
    simp only [if_pos hr8]
  · obtain ⟨n, zero, mk, hlarge⟩ := exists_largeCodes (by omega) hr
    rw [hlarge.exec_decode hpeek]
    simp only [if_neg hr8]

theorem dequantStep_phase (ch i : Nat) (s : State) : (dequantStep ch i s).phase = s.phase := rfl

theorem dequantStep_res (ch i : Nat) (s : State) : ((dequantStep ch i s).chan ch).res = (s.chan ch).res := by
  rw [dequantStep, opCode, State.chan_modChan]
  split <;> rfl

theorem runItems_codeFields {s : State} {ch : Chan} (hp : s.phase ≠ .faulted) (hc : (s.chan ch.val).count ≤ 128) :
    runItems (codeFields s ch) s = .next (dequantCodes ch.val s) := by
  have hrun := runItems_map (l := (List.finRange 128).filter fun i => decide (i.val < (s.chan ch.val).count))
    (item := fun i => .field (.code ⟨ch, i⟩ (entry (s.chan ch.val).res i.val)))
    (f := fun i => dequantStep ch.val i.val) (P := fun t => (t.chan ch.val).res = (s.chan ch.val).res)
    (fun i _ t ht => ht ▸ exec_code ch i t) (fun i _ t ht => (dequantStep_res ch.val i.val t).trans ht) rfl
  rw [codeFields, hrun, ← forEach_map, map_val_filter_lt_finRange hc,
    forEach_eq_foldl (dequantStep_phase ch.val) hp]
  rfl

/-- Settles O25: the code words are the loop of DEQUANT, and the zero fill follows. -/
theorem dequantReadsItsCodeWords : Obligations.DequantReadsItsCodeWords := by
  intro s ch sf hp hc
  have hcount := ((stageStep_dequantCodes ch.val s).2.1 ch.val).2
  have hfill := zeroFill_stores (dequantCodes ch.val s) ch.isLt (hcount.trans_le hc)
  rw [hcount] at hfill
  exact ⟨_, runItems_codeFields hp hc, _, rfl, hfill⟩

/-! ### STAGE1 -/

theorem fieldList_bitsAhead (s : State) {n : Nat} (hn : n ≤ 16) (count : Nat) :
    fieldList (readBits s.bitsAhead) n count = fieldList s.reader n count :=
  List.map_congr_left fun _ _ => congrArg (BitVec.ofNat n) (s.reader_eq_readBits hn).symm

section SideInformation

variable {ch : Chan} {s : State}

theorem toNat_mode (s : State) : (BitVec.ofNat 3 (s.peek 3)).toNat = s.peek 3 := by
  rw [BitVec.toNat_ofNat, Nat.mod_eq_of_lt (s.peek_lt 3 (by decide))]

/-- The delta code decoded at BITPOS does one pass of the loop of R118. -/
theorem exec_delta {mode : BitVec 3} (hmode : mode.toNat ≤ 5) (i : Idx) :
    exec ((SeqItem.field (.delta ch i mode)).instr s) s = .next (deltaStep ch.val mode.toNat i.val s) := by
  have hpeek := s.peek_lt mode.toNat (by omega)
  have hpow : 2 ^ mode.toNat ≤ 2 ^ 5 := Nat.pow_le_pow_right (by decide) hmode
  rw [SeqItem.instr, decode, decodeField, peek_eq_readBits s (by omega), ← s.reader_eq_readBits (by decide),
    deltaStep]
  split
  case isTrue => rfl
  case isFalse =>
    have hd : (BitVec.ofNat 5 (s.peek mode.toNat)).toNat = s.peek mode.toNat := by
      rw [BitVec.toNat_ofNat, Nat.mod_eq_of_lt (by omega)]
    exact congrArg (fun d => Host.Outcome.next (opSfDelta ch.val i.val mode.toNat d s)) hd

/-- The first value and the delta codes are SF_DELTA as a whole. -/
theorem runItems_sfDelta {mode : BitVec 3} (h1 : 1 ≤ mode.toNat) (h5 : mode.toNat ≤ 5) (hp : s.phase ≠ .faulted)
    (hc : (s.chan ch.val).count ≤ 128) :
    runItems (.field (.payload ch mode (s.chan ch.val).count)
        :: ((List.finRange 128).filter fun i => decide (1 ≤ i.val ∧ i.val < (s.chan ch.val).count)).map
          fun i => .field (.delta ch i mode)) s
      = .next (sfDeltaRun ch.val mode.toNat s) := by
  have hfirst : exec ((SeqItem.field (.payload ch mode (s.chan ch.val).count)).instr s) s
      = .next (opSfFirst ch.val (BitVec.ofNat 6 (s.peek 6)) s) := by
    rw [SeqItem.instr, decode, decodeField, if_neg (by omega), if_neg (by omega), peek_eq_readBits s (by decide)]
    rfl
  have hdeltas := runItems_map (l := (List.finRange 128).filter fun i =>
      decide (1 ≤ i.val ∧ i.val < (s.chan ch.val).count))
    (item := fun i => .field (.delta ch i mode)) (f := fun i => deltaStep ch.val mode.toNat i.val)
    (P := fun _ => True) (s := opSfFirst ch.val (BitVec.ofNat 6 (s.peek 6)) s)
    (fun i _ t _ => exec_delta h5 i) (fun _ _ _ _ => trivial) trivial
  rw [runItems_cons _ hp hfirst, hdeltas, ← forEach_map, map_val_filter_finRange hc]
  rfl

/-- The mode field, the payload and the delta codes of the side information (spec/30_encoding.md R85). -/
def scaleFields (s : State) (ch : Chan) : List SeqItem :=
  [.field (.sfmode ch), .field (.payload ch (BitVec.ofNat 3 (s.peek 3)) (s.chan ch.val).count)]
    ++ (if 1 ≤ (BitVec.ofNat 3 (s.peek 3)).toNat ∧ (BitVec.ofNat 3 (s.peek 3)).toNat ≤ 5 then
        ((List.finRange 128).filter fun i => decide (1 ≤ i.val ∧ i.val < (s.chan ch.val).count)).map
          fun i => .field (.delta ch i (BitVec.ofNat 3 (s.peek 3)))
      else [])

/-- The side information is the scale factors and then the extension field (R84). -/
theorem sideFields_eq (s : State) (ch : Chan) :
    sideFields s ch = scaleFields s ch
      ++ [.field (if (s.chan ch.val).type = .secondary then .intensity ch else .hfrScales ch s.r09.toNat)] := rfl

/-- The payload without delta codes: nothing for mode 0, raw values for modes 6 and 7 (R116, R117). -/
theorem exec_payload_plain {mode : BitVec 3} (hmode : mode.toNat = 0 ∨ 6 ≤ mode.toNat) (count : Nat) :
    exec ((SeqItem.field (.payload ch mode count)).instr s) s
      = .next (if mode.toNat = 0 then opSfZero ch.val s else opSfRaw ch.val (fieldList s.reader 6 count) s) := by
  rw [SeqItem.instr, decode, decodeField, fieldList_bitsAhead s (by decide)]
  by_cases h0 : mode.toNat = 0
  · rw [if_pos h0, if_pos h0]
    rfl
  · rw [if_neg h0, if_neg h0, if_pos (hmode.resolve_left h0)]
    rfl

/-- The fields of the scale factors do what R115 says. -/
theorem runItems_scaleFields (hp : s.phase ≠ .faulted) (hc : (s.chan ch.val).count ≤ 128) :
    runItems (scaleFields s ch) s = .next (scaleFactors ch.val s) := by
  have hmode := toNat_mode s
  have hsfmode : exec ((SeqItem.field (.sfmode ch)).instr s) s = .next (opSfmode s) := rfl
  rw [scaleFields, scaleFactors]
  simp only [List.cons_append, List.nil_append]
  rw [runItems_cons _ hp hsfmode]
  by_cases hdelta : 1 ≤ (BitVec.ofNat 3 (s.peek 3)).toNat ∧ (BitVec.ofNat 3 (s.peek 3)).toNat ≤ 5
  · have hrun := runItems_sfDelta (s := opSfmode s) hdelta.1 hdelta.2 hp hc
    rw [hmode] at hrun
    rw [if_pos hdelta, if_neg (by omega), if_neg (by omega)]
    exact hrun
  · have hexec := exec_payload_plain (s := opSfmode s) (ch := ch) (mode := BitVec.ofNat 3 (s.peek 3)) (by omega)
      (s.chan ch.val).count
    rw [hmode] at hexec
    rw [if_neg hdelta, runItems_cons _ (s := opSfmode s) hp hexec]
    by_cases h0 : s.peek 3 = 0
    · rw [if_pos h0, if_pos h0]
      rfl
    · rw [if_neg h0, if_neg h0, if_pos (by omega)]
      rfl

/-- The extension field does what R120 and R121 say. -/
theorem exec_extension (s : State) (ch : Chan) :
    exec ((SeqItem.field (if (s.chan ch.val).type = .secondary then .intensity ch
      else .hfrScales ch s.r09.toNat)).instr s) s = .next (extension ch.val s) := by
  rw [extension]
  by_cases htype : (s.chan ch.val).type = .secondary
  · rw [if_pos htype, if_pos htype, SeqItem.instr, decode, decodeField, peek_eq_readBits s (by decide),
      fieldList_bitsAhead s (by decide), intensityField]
    split <;> rfl
  · rw [if_neg htype, if_neg htype, SeqItem.instr, decode, decodeField, fieldList_bitsAhead s (by decide)]
    rfl

/-- The side information of a channel is its scale factors and, unless they ended in a fault, the extension. -/
theorem runItems_sideFields (hp : s.phase ≠ .faulted) (hc : (s.chan ch.val).count ≤ 128) :
    runItems (sideFields s ch) s = .next ((scaleFactors ch.val s).andThen (extension ch.val)) := by
  have hstep := stageStep_scaleFactors ch.val s
  rw [sideFields_eq, runItems_append (runItems_scaleFields hp hc), ← (hstep.2.1 ch.val).1, ← hstep.r09]
  generalize scaleFactors ch.val s = t
  by_cases ht : t.phase = .faulted
  · rw [runItems_faulted _ ht, State.andThen_of_faulted _ ht]
  · rw [runItems_cons _ ht (exec_extension t ch), State.andThen_of_not_faulted _ ht]
    rfl

end SideInformation

/-- Deriving changes RES and BASE of its channel only. -/
theorem derive_frame (t : State) {ch : Nat} (h : ch < 16) :
    { (derive ch t).chan ch with res := (t.chan ch).res, base := (t.chan ch).base } = t.chan ch := by
  rw [derive, State.chan_modChan_self _ _ h]

/-- Settles O24: the fields are the beginning of STAGE1, and what follows derives RES and BASE. -/
theorem stageOneReadsItsFields : Obligations.StageOneReadsItsFields := by
  intro s ch hp hc
  have hexec : exec (.stage1 ch) s
      = .next (((scaleFactors ch.val s).andThen (extension ch.val)).andThen (derive ch.val)) := rfl
  rw [hexec, runItems_sideFields hp hc]
  generalize (scaleFactors ch.val s).andThen (extension ch.val) = t
  refine ⟨t, rfl, fun ht => ?_, fun ht => ⟨derive ch.val t, ?_, rfl, fun c hne => ?_, derive_frame t ch.isLt⟩⟩
  · rw [State.andThen_of_faulted _ ht]
  · rw [State.andThen_of_not_faulted _ ht]
  · exact State.chan_modChan_ne _ _ hne

end Sys2Proof.Machine
end

section
/-! SUPPORT. The pairs of channels of a configured stream (spec/30_encoding.md R92), and INTENSITY on such a pair
(spec/43_reconstruct.md R137, R138). -/

namespace Sys2Proof.Machine

/-! ### Pairs of channels -/

/-- The offsets of the secondary channels of a track. -/
theorem secondary_offset {b r04 o : Nat} (h : trackType b r04 o = .secondary) (ho : o < b) :
    (1 < b ∧ b ≤ 8) ∧ (o = 1 ∨ b = 4 ∧ r04 = 0 ∧ o = 3 ∨ b = 5 ∧ r04 ≤ 2 ∧ o = 4 ∨ (b = 6 ∨ b = 7) ∧ o = 5
      ∨ b = 8 ∧ (o = 5 ∨ o = 7)) := by
  unfold trackType at h
  split_ifs at h <;> omega

/-- Within a track a secondary follows a primary. -/
theorem trackType_pred {b r04 o : Nat} (h : trackType b r04 o = .secondary) (ho : o < b) :
    1 ≤ o ∧ trackType b r04 (o - 1) = .primary := by
  obtain ⟨hb, rfl | ⟨rfl, rfl, rfl⟩ | ⟨rfl, hr, rfl⟩ | ⟨hb', rfl⟩ | ⟨rfl, rfl | rfl⟩⟩ := secondary_offset h ho
  · exact ⟨by decide, by simp [trackType]; omega⟩
  · exact ⟨by decide, rfl⟩
  · exact ⟨by decide, by simp [trackType, hr]⟩
  · rcases hb' with rfl | rfl <;> exact ⟨by decide, by simp [trackType]⟩
  · exact ⟨by decide, rfl⟩
  · exact ⟨by decide, rfl⟩

/-- A primary has its successor in the stream: its track is a whole one. -/
theorem succ_lt_of_assignType {c r03 r04 r07 ch : Nat} (h : assignType c r03 r04 r07 ch = .primary) :
    ch + 1 < c := by
  unfold assignType at h
  simp only at h
  split at h
  case isFalse => cases h
  case isTrue hc =>
    obtain ⟨hlt, -⟩ := trackType_succ h
    have hdiv := Nat.div_add_mod ch (c / r03)
    have htrack : c / r03 * (ch / (c / r03) + 1) ≤ c / r03 * r03 := Nat.mul_le_mul_left _ hc.2.2
    have hwhole := Nat.div_mul_le_self c r03
    rw [Nat.mul_add, Nat.mul_one] at htrack
    omega

theorem assignType_pred {c r03 r04 r07 ch : Nat} (h : assignType c r03 r04 r07 ch = .secondary) :
    1 ≤ ch ∧ assignType c r03 r04 r07 (ch - 1) = .primary := by
  unfold assignType at h ⊢
  simp only at h ⊢
  generalize c / r03 = b at h ⊢
  split at h
  case isFalse => cases h
  case isTrue hc =>
    obtain ⟨hpos, hpred⟩ := trackType_pred h (Nat.mod_lt ch (by omega))
    have hlt : ch % b < b := Nat.mod_lt ch (by omega)
    have hle := Nat.mod_le ch b
    have hsplit : ch - 1 = b * (ch / b) + (ch % b - 1) := by
      have := Nat.div_add_mod ch b
      omega
    have hdiv : (ch - 1) / b = ch / b := by
      rw [hsplit, Nat.mul_add_div (by omega), Nat.div_eq_of_lt (show ch % b - 1 < b by omega), Nat.add_zero]
    have hmod : (ch - 1) % b = ch % b - 1 := by
      rw [hsplit, Nat.mul_add_mod, Nat.mod_eq_of_lt (by omega)]
    rw [hdiv, hmod, if_pos hc, hpred]
    exact ⟨by omega, rfl⟩

theorem assignType_of_no_stereo (c r03 r04 ch : Nat) : assignType c r03 r04 0 ch = .discrete := by
  simp [assignType]

/-- The type of a channel of a configured stream: by R92 for the channels in use, 0 for the others. -/
theorem type_of_derived {s : State} (h : s.Derived) (ch : Nat) :
    (s.chan ch).type = if ch < s.channels.toNat then s.typeOf ch else .discrete := by
  obtain ⟨hcheck, -, -, hchan⟩ := h
  by_cases hch : ch < 16
  · exact (hchan ch hch).1
  · have hle := channels_le_of_configCheck hcheck
    rw [State.chan_outside s (by omega), if_neg (by omega)]
    rfl

theorem lt_channels_of_type {s : State} (h : s.Derived) {ch : Nat} (ht : (s.chan ch).type ≠ .discrete) :
    ch < s.channels.toNat ∧ (s.chan ch).type = s.typeOf ch := by
  have htype := type_of_derived h ch
  by_cases hch : ch < s.channels.toNat
  · rw [if_pos hch] at htype
    exact ⟨hch, htype⟩
  · rw [if_neg hch] at htype
    exact absurd htype ht

/-- Settles O11, by the pairs within a whole track. -/
theorem channelsPairUp : Obligations.ChannelsPairUp := by
  intro s hconf hphase
  have hs := hconf hphase
  refine ⟨fun ch ht => ?_, fun ch ht => ?_, fun h07 ch => ?_⟩
  · obtain ⟨-, htype⟩ := lt_channels_of_type hs (by rw [ht]; decide)
    have hprimary : s.typeOf ch = .primary := htype.symm.trans ht
    have hlt : ch + 1 < s.channels.toNat := succ_lt_of_assignType hprimary
    refine ⟨hlt, ?_⟩
    rw [type_of_derived hs, if_pos hlt]
    exact assignType_succ hprimary
  · obtain ⟨hlt, htype⟩ := lt_channels_of_type hs (by rw [ht]; decide)
    obtain ⟨hpos, hpred⟩ := assignType_pred (htype.symm.trans ht)
    refine ⟨hpos, ?_⟩
    rw [type_of_derived hs, if_pos (by omega)]
    exact hpred
  · have hzero : s.r07.toNat = 0 := by rw [h07]; rfl
    rw [type_of_derived hs]
    split
    · rw [State.typeOf, hzero]
      exact assignType_of_no_stereo ..
    · rfl

/-! ### INTENSITY -/

theorem intensity_factors : ∀ k : Nat, k < 16 → intRatio k = primaryFactors.getD k 0
    ∧ fsub (intRatio k) 0x40000000 = (secondaryFactors .r1Minus2).getD k 0
    ∧ fsub 0x40000000 (intRatio k) = (secondaryFactors .twoMinusR1).getD k 0 := by
  decide +kernel

theorem intRatio_rounded : ∀ k : Nat, k < 14 → IsRoundedRoot (intRatio k) 1 (14 - k) 7 := by
  unfold IsRoundedRoot
  decide +kernel

/-- The secondary factor is the entry of R137's table, under either setting. -/
theorem secondaryFactor_eq (p : Config.Params) {k : Nat} (hk : k < 16) :
    secondaryFactor p (intRatio k) = (secondaryFactors p.factor).getD k 0 := by
  obtain ⟨-, hminus, hsub⟩ := intensity_factors k hk
  unfold secondaryFactor
  cases p.factor with
  | r1Minus2 => exact hminus
  | twoMinusR1 => exact hsub

/-- An array with the entries from `lo` below `hi` filled. -/
theorem entry_fillRange_between {w n : Nat} (v : Vector (BitVec w) n) (lo hi : Nat) (f : Nat → BitVec w) {i : Nat}
    (hi' : i < n) : entry (fillRange v lo (hi - lo) f) i = if lo ≤ i ∧ i < hi then f i else entry v i := by
  rw [entry_fillRange]
  by_cases h : lo ≤ i ∧ i < hi
  · rw [if_pos h, if_pos (by omega)]
  · rw [if_neg h, if_neg (by omega)]

/-- One entry more is filled. -/
theorem fillRange_succ {w n : Nat} (v : Vector (BitVec w) n) {lo i : Nat} (h : lo ≤ i) (f : Nat → BitVec w) :
    fillRange v lo (i + 1 - lo) f = (fillRange v lo (i - lo) f).setIfInBounds i (f i) := by
  rw [fillRange, Nat.succ_sub h, List.range'_1_concat, List.foldl_append, Nat.add_sub_cancel' h]
  rfl

theorem fillRange_self {w n : Nat} (v : Vector (BitVec w) n) (lo : Nat) (f : Nat → BitVec w) :
    fillRange v lo (lo - lo) f = v := by
  rw [Nat.sub_self]
  rfl

/-- A spectrum whose entries from `lo` below `hi` are those of another, scaled. -/
def scaled (spec source : Vector F32 128) (lo hi : Nat) (r : F32) : Vector F32 128 :=
  fillRange spec lo (hi - lo) fun i => fmul (entry source i) r

theorem entry_scaled (spec source : Vector F32 128) (lo hi : Nat) (r : F32) {i : Nat} (hi' : i < 128) :
    entry (scaled spec source lo hi r) i
      = if lo ≤ i ∧ i < hi then fmul (entry source i) r else entry spec i :=
  entry_fillRange_between spec lo hi _ hi'

theorem scaled_self (spec source : Vector F32 128) (lo : Nat) (r : F32) : scaled spec source lo lo r = spec :=
  fillRange_self spec lo _

/-- One coefficient more. -/
theorem scaled_succ (spec source : Vector F32 128) {lo i : Nat} (h : lo ≤ i) (r : F32) :
    (scaled spec source lo i r).setIfInBounds i (fmul (entry source i) r) = scaled spec source lo (i + 1) r :=
  (fillRange_succ spec h fun i => fmul (entry source i) r).symm

/-- The pair of channels scaled from `lo` below `hi`, both from the spectrum of the first. -/
def scaledPair (s : State) (ch : Nat) (r1 r2 : F32) (lo hi : Nat) : State :=
  (s.modChan (ch + 1) fun k => { k with spec := scaled k.spec (s.chan ch).spec lo hi r2 }).modChan ch fun k =>
    { k with spec := scaled k.spec k.spec lo hi r1 }

theorem Alike.symm {s t : State} (h : Alike s t) : Alike t s := by
  unfold Alike at h ⊢
  rw [← h]

theorem Alike.trans {s t u : State} (h : Alike s t) (h' : Alike t u) : Alike s u := by
  unfold Alike at h h' ⊢
  rw [← h, ← h']

section Pair

variable (s : State) {ch : Nat} (r1 r2 : F32) (lo hi : Nat)

theorem scaledPair_first (h : ch < 16) :
    (scaledPair s ch r1 r2 lo hi).chan ch
      = { s.chan ch with spec := scaled (s.chan ch).spec (s.chan ch).spec lo hi r1 } := by
  rw [scaledPair, State.chan_modChan_self _ _ h, State.chan_modChan_ne _ _ (by omega)]

theorem scaledPair_second (h : ch + 1 < 16) :
    (scaledPair s ch r1 r2 lo hi).chan (ch + 1)
      = { s.chan (ch + 1) with spec := scaled (s.chan (ch + 1)).spec (s.chan ch).spec lo hi r2 } := by
  rw [scaledPair, State.chan_modChan_ne _ _ (by omega), State.chan_modChan_self _ _ h]

theorem scaledPair_other {c : Nat} (h : c ≠ ch) (h' : c ≠ ch + 1) :
    (scaledPair s ch r1 r2 lo hi).chan c = s.chan c := by
  rw [scaledPair, State.chan_modChan_ne _ _ h, State.chan_modChan_ne _ _ h']

theorem alike_scaledPair : Alike s (scaledPair s ch r1 r2 lo hi) :=
  Alike.trans (State.modChan_frame s _ _) (State.modChan_frame _ _ _)

theorem alike_intensityStep (i : Nat) : Alike s (intensityStep ch r1 r2 i s) :=
  Alike.trans (State.modChan_frame s _ _) (State.modChan_frame _ _ _)

end Pair

/-- States that agree but for the channels and read the same channel by channel are equal. -/
theorem State.ext_chan {s t : State} (h : Alike s t) (hc : ∀ c, c < 16 → t.chan c = s.chan c) : t = s := by
  have hchans := State.chans_ext hc
  rw [← h, ← hchans]

/-- What one pass of R138 does to the two channels, with `a` the coefficient read before. -/
theorem intensityStep_chan (s : State) {ch : Nat} (hch : ch + 1 < 16) (r1 r2 : F32) (i c : Nat) :
    (intensityStep ch r1 r2 i s).chan c
      = if c = ch then
          { s.chan ch with spec := (s.chan ch).spec.setIfInBounds i (fmul (entry (s.chan ch).spec i) r1) }
        else if c = ch + 1 then
          { s.chan c with spec := (s.chan c).spec.setIfInBounds i (fmul (entry (s.chan ch).spec i) r2) }
        else s.chan c := by
  rw [intensityStep]
  by_cases h : c = ch
  · rw [if_pos h, h, State.chan_modChan_self _ _ (by omega), State.chan_modChan_ne _ _ (by omega)]
  · rw [if_neg h, State.chan_modChan_ne _ _ h]
    by_cases h' : c = ch + 1
    · rw [if_pos h', h', State.chan_modChan_self _ _ hch]
    · rw [if_neg h', State.chan_modChan_ne _ _ h']

theorem intensityStep_scaledPair (s : State) {ch : Nat} (hch : ch + 1 < 16) (r1 r2 : F32) {lo i : Nat}
    (h : lo ≤ i) :
    intensityStep ch r1 r2 i (scaledPair s ch r1 r2 lo i) = scaledPair s ch r1 r2 lo (i + 1) := by
  have hread : entry (scaled (s.chan ch).spec (s.chan ch).spec lo i r1) i = entry (s.chan ch).spec i := by
    by_cases hi : i < 128
    · rw [entry_scaled _ _ _ _ _ hi, if_neg (by omega)]
    · rw [entry_outside _ (by omega), entry_outside _ (by omega)]
  have hfirst := scaledPair_first s r1 r2 lo i (ch := ch) (by omega)
  have halike := (alike_scaledPair (ch := ch) s r1 r2 lo i).trans (alike_intensityStep (ch := ch) _ r1 r2 i)
  refine State.ext_chan ((alike_scaledPair s r1 r2 lo (i + 1)).symm.trans halike) fun c _ => ?_
  rw [intensityStep_chan _ hch, hfirst]
  rw [hread]
  by_cases hc : c = ch
  · rw [if_pos hc, hc, scaledPair_first _ _ _ _ _ (by omega), scaled_succ _ _ h]
  · rw [if_neg hc]
    by_cases hc' : c = ch + 1
    · rw [if_pos hc', hc', scaledPair_second _ _ _ _ _ hch, scaledPair_second _ _ _ _ _ hch, scaled_succ _ _ h]
    · rw [if_neg hc', scaledPair_other _ _ _ _ _ hc hc', scaledPair_other _ _ _ _ _ hc hc']

/-- The pair before the first pass. -/
theorem scaledPair_start (s : State) {ch : Nat} (hch : ch + 1 < 16) (r1 r2 : F32) (lo : Nat) :
    scaledPair s ch r1 r2 lo lo = s := by
  refine State.ext_chan (alike_scaledPair s r1 r2 lo lo) fun c _ => ?_
  by_cases hc : c = ch
  · rw [hc, scaledPair_first _ _ _ _ _ (by omega), scaled_self]
  · by_cases hc' : c = ch + 1
    · rw [hc', scaledPair_second _ _ _ _ _ hch, scaled_self]
    · exact scaledPair_other _ _ _ _ _ hc hc'

/-- The loop of R138 from `lo` on scales the pair. -/
theorem foldl_intensityStep (s : State) {ch : Nat} (hch : ch + 1 < 16) (r1 r2 : F32) (lo n : Nat) :
    (List.range' lo n).foldl (fun s i => intensityStep ch r1 r2 i s) s = scaledPair s ch r1 r2 lo (lo + n) := by
  induction n with
  | zero => exact (scaledPair_start s hch r1 r2 lo).symm
  | succ n ih =>
    rw [List.range'_1_concat, List.foldl_append, ih]
    exact intensityStep_scaledPair s hch r1 r2 (Nat.le_add_right lo n)

/-- The gate as R137 words it. -/
theorem gateOpen_iff (p : Config.Params) (r07 : Word) (int : BitVec 4) :
    gateOpen p r07.toNat int = true ↔
      match p.gate with
      | .headerBands => r07 ≠ 0
      | .subframeNonzero => int ≠ 0 := by
  have hzero : r07.toNat ≠ 0 ↔ r07 ≠ 0 := not_congr (BitVec.toNat_eq (y := 0)).symm
  unfold gateOpen
  cases p.gate with
  | headerBands => exact decide_eq_true_iff.trans hzero
  | subframeNonzero => exact decide_eq_true_iff

/-- Settles O42: the loop scales the pair, by the factors that the tables and formulas give. -/
theorem intensityScalesThePair : Obligations.IntensityScalesThePair := by
  refine ⟨intensity_factors, intRatio_rounded, rfl, rfl, fun s ch sf hch => ?_⟩
  intro k k' int isOpen r1 r2
  have hgate : gateOpen Config.params s.r07.toNat int = true ↔ isOpen := gateOpen_iff Config.params s.r07 int
  have hr1 : intRatio int.toNat = r1 := (intensity_factors int.toNat int.isLt).1
  have hr2 : secondaryFactor Config.params (intRatio int.toNat) = r2 := secondaryFactor_eq Config.params int.isLt
  refine ⟨_, rfl, fun hclosed => ?_, fun hopen => ?_⟩
  · rw [intensity, if_neg (fun h => hclosed ⟨h.1, hgate.mp h.2⟩)]
  · have hrun : intensity Config.params ch.val sf.val s
        = scaledPair s ch.val r1 r2 s.r06.toNat (s.r06.toNat + (s.r05.toNat - s.r06.toNat)) := by
      rw [← foldl_intensityStep s (by omega), ← hr2, ← hr1]
      exact if_pos ⟨hopen.1, hgate.mpr hopen.2⟩
    rw [hrun, scaledPair_first _ _ _ _ _ ch.isLt, scaledPair_second _ _ _ _ _ (by omega)]
    refine ⟨alike_scaledPair .., fun c h h' => scaledPair_other _ _ _ _ _ h h', rfl, rfl, fun i hi => ?_⟩
    have hrange : s.r06.toNat ≤ i ∧ i < s.r06.toNat + (s.r05.toNat - s.r06.toNat)
        ↔ s.r06.toNat ≤ i ∧ i < s.r05.toNat := by omega
    simp only [entry_scaled _ _ _ _ _ hi, hrange]
    exact ⟨rfl, rfl⟩

end Sys2Proof.Machine
end

section
/-! SUPPORT. The resolutions and base multipliers that STAGE1 derives (spec/41_side_info.md R122-R125), and the tables
they come from (spec/30_encoding.md R98-R101). -/

namespace Sys2Proof.Machine

/-! ### The tables -/

theorem dqStep_rounded : ∀ i : Nat, i < 64 →
    IsRoundedRoot (dqStep i) 128 (128 ^ 64 * 2 ^ (53 * i)) (2 ^ (53 * 63)) := by
  unfold IsRoundedRoot
  decide +kernel

theorem dqStep_eq_hfrRatio : ∀ i : Nat, i < 63 → dqStep i = fmul (hfrRatio (i + 1)) 0x34000000 := by
  decide +kernel

theorem resStep_rounded : ∀ r : Nat, r < 16 → 1 ≤ r →
    IsRoundedRoot (resStep r) 1 2 (if r ≤ 7 then 2 * r + 1 else 2 ^ (r - 3) - 1) := by
  unfold IsRoundedRoot
  decide +kernel

/-- A magnitude of at least 2^24 units of 2^(-149-k) does not round to zero. -/
theorem fRound_ne_zero (neg : Bool) {m k : Nat} (h : 2 ^ (24 + k) ≤ m) : fRound neg m k ≠ 0 := by
  have hlog : 24 + k ≤ m.log2 := (Nat.le_log2 (Nat.ne_of_gt ((Nat.two_pow_pos _).trans_le h))).mpr h
  have hplace : 1 ≤ lastPlace m k := by
    unfold lastPlace
    omega
  intro hzero
  have hnat := toNat_fRound neg m k
  have hpattern : 2 ^ 23 ≤ roundedPattern m k := by
    unfold roundedPattern
    omega
  have hzeroNat : (fRound neg m k).toNat = 0 := congrArg BitVec.toNat hzero
  omega

theorem dqStep_large : ∀ v : Nat, v < 64 → fFinite (dqStep v) = true ∧ 2 ^ 100 ≤ fUnits (dqStep v) := by
  decide +kernel

theorem resStep_large : ∀ r : Nat, r < 16 → r ≠ 0 → fFinite (resStep r) = true ∧ 2 ^ 100 ≤ fUnits (resStep r) := by
  decide +kernel

theorem dqStep_mul_zero : ∀ v : Nat, v < 64 → fmul (dqStep v) (resStep 0) = 0 := by decide +kernel

/-- A base multiplier is +0.0 exactly where the resolution is 0 (R125). -/
theorem base_eq_zero_iff {v r : Nat} (hv : v < 64) (hr : r < 16) : fmul (dqStep v) (resStep r) = 0 ↔ r = 0 := by
  refine ⟨fun h => ?_, fun h => h ▸ dqStep_mul_zero v hv⟩
  by_contra hne
  obtain ⟨hdq, hdqUnits⟩ := dqStep_large v hv
  obtain ⟨hres, hresUnits⟩ := resStep_large r hr hne
  rw [fmul_finite hdq hres] at h
  refine fRound_ne_zero _ ?_ h
  calc 2 ^ (24 + 149) ≤ 2 ^ 100 * 2 ^ 100 := by decide
    _ ≤ fUnits (dqStep v) * fUnits (resStep r) := Nat.mul_le_mul hdqUnits hresUnits

/-- INVERT as a list of its entries (R98). -/
def invertTable : List Nat :=
  List.replicate 6 14 ++ List.replicate 6 13 ++ List.replicate 6 12 ++ List.replicate 6 11
    ++ List.replicate 7 10 ++ List.replicate 6 9 ++ List.replicate 6 8 ++ [7, 6, 6, 5]
    ++ List.replicate 3 4 ++ List.replicate 3 3 ++ List.replicate 4 2

theorem toNat_invert : ∀ t : Nat, t < 57 → (invert t).toNat = invertTable.getD t 0 := by decide

/-! ### The derivation -/

theorem threshold_eq_fdiv (ath : Byte) (noise : Int) (i : Nat) (v : BitVec 6) :
    threshold ath noise i v = (ath.toNat : Int) + (noise + i).fdiv 256 - (5 * v.toNat / 2 : Nat) + 1 := by
  rw [threshold, Int.fdiv_eq_ediv_of_nonneg _ (by decide)]

/-- The resolution by the threshold (R122, R123). -/
theorem toNat_resolution_of_threshold (ath : Byte) (noise : Int) (i : Nat) (v : BitVec 6) :
    let thr := threshold ath noise i v
    let r := (resolution ath noise i v).toNat
    (v.toNat = 0 → r = 0) ∧ (v.toNat ≠ 0 → thr < 0 → r = 15) ∧ (v.toNat ≠ 0 → 57 ≤ thr → r = 1)
      ∧ (v.toNat ≠ 0 → 0 ≤ thr → thr < 57 → r = invertTable.getD thr.toNat 0) := by
  intro thr r
  have hv : v = 0 ↔ v.toNat = 0 := BitVec.toNat_eq
  have hr : r = (if v.toNat = 0 then 0 else if thr < 0 then 15 else if 57 ≤ thr then 1
      else invert thr.toNat : BitVec 4).toNat := by
    simp only [← hv]
    rfl
  refine ⟨fun h => ?_, fun h hneg => ?_, fun h hbig => ?_, fun h hlo hhi => ?_⟩
  · rw [hr, if_pos h]; rfl
  · rw [hr, if_neg h, if_pos hneg]; rfl
  · rw [hr, if_neg h, if_neg (by omega), if_pos hbig]; rfl
  · rw [hr, if_neg h, if_neg (by omega), if_neg (by omega)]
    exact toNat_invert _ (by omega)

theorem entry_resArray (s : State) {k : Channel} (hc : k.count ≤ 128) {i : Nat} (hi : i < 128) :
    entry (resArray s k) i = if i < k.count then resolution (s.ath i) s.noise i (entry k.sf i) else 0 := by
  rw [resArray, entry_fillRange, entry_fillRange]
  by_cases h : i < k.count
  · rw [if_neg (by omega), if_pos (by omega), if_pos h]
  · rw [if_pos (by omega), if_neg h]

theorem entry_baseArray (k : Channel) (res : Vector (BitVec 4) 128) {i : Nat} (hi : i < 128) :
    entry (baseArray k res) i
      = if i < k.count then fmul (dqStep (entry k.sf i).toNat) (resStep (entry res i).toNat)
        else entry k.base i := by
  rw [baseArray, entry_fillRange]
  by_cases h : i < k.count
  · rw [if_pos (by omega), if_pos h]
  · rw [if_neg (by omega), if_neg h]

/-! ### What the side information leaves alone -/

/-- What the derivation reads besides the scale factors, and what it leaves of BASE, is as before. -/
def KeepsNoiseAndBase (ch : Nat) (s t : State) : Prop :=
  t.noise = s.noise ∧ (t.chan ch).base = (s.chan ch).base

section Side

variable {ch : Nat} {s t u : State}

theorem KeepsNoiseAndBase.refl (ch : Nat) (s : State) : KeepsNoiseAndBase ch s s := ⟨rfl, rfl⟩

theorem KeepsNoiseAndBase.trans (h : KeepsNoiseAndBase ch s t) (h' : KeepsNoiseAndBase ch t u) :
    KeepsNoiseAndBase ch s u := ⟨h'.1.trans h.1, h'.2.trans h.2⟩

theorem StoresSf.keepsNoiseAndBase {n : Nat} {f : Nat → BitVec 6} (h : StoresSf s t ch n f) :
    KeepsNoiseAndBase ch s t := by
  obtain ⟨-, hdata, -, hchan, -⟩ := h
  exact ⟨(congrArg State.noise hdata :), (congrArg Channel.base hchan :)⟩

theorem StoresInt.keepsNoiseAndBase {n : Nat} {f : Nat → BitVec 4} (h : StoresInt s t ch n f) :
    KeepsNoiseAndBase ch s t := by
  obtain ⟨-, hdata, -, hchan, -⟩ := h
  exact ⟨(congrArg State.noise hdata :), (congrArg Channel.base hchan :)⟩

theorem deltaStep_keepsNoiseAndBase (hch : ch < 16) (m i : Nat) (s : State) :
    KeepsNoiseAndBase ch s (deltaStep ch m i s) := by
  rw [deltaStep]
  split
  · exact (opSfEscape_stores s i m _ hch).keepsNoiseAndBase
  · rcases opSfDelta_cases s i m (s.peek m) hch with ⟨-, -, h⟩ | ⟨-, e⟩
    · exact h.keepsNoiseAndBase
    · rw [e]
      exact .refl ch s

theorem scaleFactors_keepsNoiseAndBase (hch : ch < 16) (s : State) :
    KeepsNoiseAndBase ch s (scaleFactors ch s) := by
  have hmode : KeepsNoiseAndBase ch s (opSfmode s) := ⟨rfl, rfl⟩
  rw [scaleFactors]
  split_ifs
  · exact hmode.trans (opSfZero_stores _ hch).keepsNoiseAndBase
  · exact hmode.trans (opSfRaw_stores _ _ hch).keepsNoiseAndBase
  · refine hmode.trans (forEach_keeps (P := KeepsNoiseAndBase ch (opSfmode s)) (fun i _ t _ h => ?_) _ ?_)
    · exact h.trans (deltaStep_keepsNoiseAndBase hch _ i t)
    · exact (opSfFirst_stores _ _ hch).keepsNoiseAndBase

theorem extension_keepsNoiseAndBase (hch : ch < 16) (s : State) :
    KeepsNoiseAndBase ch s (extension ch s) := by
  rw [extension]
  split
  · rw [intensityField]
    split
    · exact (opIntensitySet_stores s _ hch).keepsNoiseAndBase
    · exact (opIntensityAll15_stores s hch).keepsNoiseAndBase
  · exact (opHfrScale_stores s _ hch).keepsNoiseAndBase

/-- The side information of a channel: everything of STAGE1 before the derivation. -/
def sideInformation (ch : Nat) (s : State) : State := (scaleFactors ch s).andThen (extension ch)

theorem stage1_eq (ch : Nat) (s : State) : stage1 ch s = (sideInformation ch s).andThen (derive ch) := rfl

theorem sideInformation_keepsNoiseAndBase (hch : ch < 16) (s : State) :
    KeepsNoiseAndBase ch s (sideInformation ch s) := by
  have h := scaleFactors_keepsNoiseAndBase hch s
  rw [sideInformation]
  rcases (scaleFactors ch s).andThen_cases (extension ch) with ⟨-, e⟩ | ⟨-, e⟩ <;> rw [e]
  · exact h
  · exact h.trans (extension_keepsNoiseAndBase hch _)

theorem stageStep_sideInformation (ch : Nat) (s : State) : StageStep s (sideInformation ch s) :=
  (stageStep_scaleFactors ch s).andThen (stageStep_extension ch)

theorem StageStep.ath (h : StageStep s t) (i : Nat) : t.ath i = s.ath i :=
  congrArg (fun m => memRead m (athAddr i)) (congrArg State.mem h.1 :)

end Side

/-- What a STAGE1 that does not fault leaves in RES and BASE (R122-R125). -/
theorem stage1_derives {s : State} {ch : Nat} (hch : ch < 16) (hc : (s.chan ch).count ≤ 128)
    (ht : (stage1 ch s).phase ≠ .faulted) {i : Nat} (hi : i < 128) :
    let k := (stage1 ch s).chan ch
    entry k.res i = (if i < (s.chan ch).count then resolution (s.ath i) s.noise i (entry k.sf i) else 0)
      ∧ entry k.base i = if i < (s.chan ch).count then
          fmul (dqStep (entry k.sf i).toNat) (resStep (entry k.res i).toNat)
        else entry (s.chan ch).base i := by
  have hstep := stageStep_sideInformation ch s
  obtain ⟨hnoise, hbase⟩ := sideInformation_keepsNoiseAndBase hch s
  have hcount : ((sideInformation ch s).chan ch).count = (s.chan ch).count := (hstep.2.1 ch).2
  have hath := hstep.ath i
  rw [stage1_eq] at ht ⊢
  generalize sideInformation ch s = u at ht hnoise hbase hcount hath ⊢
  have hu : u.phase ≠ .faulted := fun hf => ht (by rwa [State.andThen_of_faulted _ hf])
  rw [State.andThen_of_not_faulted _ hu, derive, State.chan_modChan_self _ _ hch]
  simp only [entry_resArray u (hcount.trans_le hc) hi, entry_baseArray _ _ hi, hcount, hath, hnoise, hbase]
  exact ⟨trivial, trivial⟩

/-- Settles O39: the tables entry by entry, and what STAGE1 derives from the scale factors it leaves. -/
theorem resolutionAndBase : Obligations.ResolutionAndBase := by
  refine ⟨dqStep_rounded, dqStep_eq_hfrRatio, rfl, fun r h1 h15 => resStep_rounded r (by omega) h1,
    fun s ch _ hc => ⟨stage1 ch.val s, rfl, fun ht i hi => ?_⟩⟩
  obtain ⟨hres, hbase⟩ := stage1_derives ch.isLt hc ht hi
  intro v r thr inverted
  refine ⟨fun hle => ?_, fun hlt => ?_⟩
  · rw [if_neg (by omega)] at hres hbase
    exact ⟨congrArg BitVec.toNat hres, hbase⟩
  · rw [if_pos hlt] at hres hbase
    have hr : r = (resolution (s.ath i) s.noise i (entry ((stage1 ch.val s).chan ch.val).sf i)).toNat :=
      congrArg BitVec.toNat hres
    have hthr : threshold (s.ath i) s.noise i (entry ((stage1 ch.val s).chan ch.val).sf i) = thr :=
      threshold_eq_fdiv ..
    obtain ⟨hzero, hneg, hbig, hmid⟩ := toNat_resolution_of_threshold (s.ath i) s.noise i
      (entry ((stage1 ch.val s).chan ch.val).sf i)
    rw [hthr, ← hr] at hneg hbig hmid
    rw [← hr] at hzero
    refine ⟨hzero, hneg, hbig, hmid, hbase, ?_⟩
    rw [hbase]
    exact base_eq_zero_iff (entry ((stage1 ch.val s).chan ch.val).sf i).isLt
      (entry ((stage1 ch.val s).chan ch.val).res i).isLt

end Sys2Proof.Machine
end

section
/-! SUPPORT. HFR (spec/43_reconstruct.md R134-R136): the loops over the groups fill the high band index by index, each
from its mirror image in the coded band. -/

namespace Sys2Proof.Machine

/-! ### HFRRATIO -/

theorem hfrRatio_rounded_fin : ∀ j : Nat, j < 127 → 1 ≤ j →
    IsRoundedRoot (hfrRatio ((j : Int) - 63)) 128 (2 ^ (53 * j)) (2 ^ (53 * 63)) := by
  unfold IsRoundedRoot
  decide +kernel

/-! ### The mirrored spectrum -/

/-- The coefficient at `i` of the high band, for a coded band of `c` and groups of `b`: its mirror image, scaled by the
ratio of the group's scale to the image's scale factor (R135). -/
def mirrorEntry (k : Channel) (c b i : Nat) : F32 :=
  fmul (hfrRatio ((entry k.sf (c + (i - c) / b)).toNat - (entry k.sf (2 * c - 1 - i)).toNat))
    (entry k.spec (2 * c - 1 - i))

/-- The spectrum with the high band filled below `i`. -/
def mirrored (k : Channel) (c b i : Nat) : Vector F32 128 := fillRange k.spec c (i - c) (mirrorEntry k c b)

theorem entry_mirrored (k : Channel) (c b i : Nat) {j : Nat} (hj : j < 128) :
    entry (mirrored k c b i) j = if c ≤ j ∧ j < i then mirrorEntry k c b j else entry k.spec j :=
  entry_fillRange_between k.spec c i _ hj

theorem mirrored_start (k : Channel) (c b : Nat) : mirrored k c b c = k.spec := fillRange_self k.spec c _

/-- One coefficient more. -/
theorem mirrored_succ (k : Channel) {c b i : Nat} (h : c ≤ i) :
    (mirrored k c b i).setIfInBounds i (mirrorEntry k c b i) = mirrored k c b (i + 1) :=
  (fillRange_succ k.spec h (mirrorEntry k c b)).symm

/-! ### The loops -/

section Loops

variable {s : State} {ch : Nat} {c b : Nat}

/-- The state with the high band of the channel filled below `i`. -/
def State.mirroredTo (s : State) (ch c b i : Nat) : State :=
  s.modChan ch fun k => { k with spec := mirrored k c b i }

theorem State.chan_mirroredTo (hch : ch < 16) (i : Nat) :
    (s.mirroredTo ch c b i).chan ch = { s.chan ch with spec := mirrored (s.chan ch) c b i } :=
  State.chan_modChan_self s _ hch

theorem State.mirroredTo_start (hch : ch < 16) : s.mirroredTo ch c b c = s := by
  refine State.ext_chan (State.modChan_frame s ch _) fun x _ => ?_
  by_cases hx : x = ch
  · rw [hx, State.chan_mirroredTo hch, mirrored_start]
  · exact State.chan_modChan_ne s _ hx

/-- The loop variables with the high band filled below `i`: the target, its source, the state. -/
def hfrAt (s : State) (ch c b i : Nat) : Nat × Int × State := (i, (2 * c : Int) - 1 - i, s.mirroredTo ch c b i)

theorem State.mirroredTo_succ (hch : ch < 16) {i : Nat} (h : c ≤ i) :
    ((s.mirroredTo ch c b i).modChan ch fun k =>
        { k with spec := k.spec.setIfInBounds i (mirrorEntry (s.chan ch) c b i) })
      = s.mirroredTo ch c b (i + 1) := by
  rw [State.mirroredTo, State.modChan_modChan s _ _ hch, State.mirroredTo, State.modChan, State.modChan]
  simp only [Function.comp_apply, mirrored_succ _ h]

/-- The coefficient written is made of the coded band, which the loop has not changed. -/
theorem mirrorEntry_of_mirroredTo (hch : ch < 16) {i : Nat} (hlo : c ≤ i) (hmirror : i < 2 * c) :
    fmul (hfrRatio ((entry (s.chan ch).sf (c + (i - c) / b)).toNat
          - (entry ((s.mirroredTo ch c b i).chan ch).sf (2 * c - 1 - i)).toNat))
        (entry ((s.mirroredTo ch c b i).chan ch).spec (2 * c - 1 - i))
      = mirrorEntry (s.chan ch) c b i := by
  have hsource : entry (mirrored (s.chan ch) c b i) (2 * c - 1 - i) = entry (s.chan ch).spec (2 * c - 1 - i) := by
    by_cases hin : 2 * c - 1 - i < 128
    · rw [entry_mirrored _ _ _ _ hin, if_neg (by omega)]
    · rw [entry_outside _ (by omega), entry_outside _ (by omega)]
  rw [State.chan_mirroredTo hch, hsource]
  rfl

/-- One coefficient of R135. -/
theorem hfrGroup_step (hch : ch < 16) {i j : Nat} (hlo : c ≤ i) (hhi : i < s.r05.toNat) (hmirror : i < 2 * c) :
    hfrGroup ch (entry (s.chan ch).sf (c + (i - c) / b)) (j + 1) (hfrAt s ch c b i)
      = hfrGroup ch (entry (s.chan ch).sf (c + (i - c) / b)) j (hfrAt s ch c b (i + 1)) := by
  have hr05 : (s.mirroredTo ch c b i).r05 = s.r05 := rfl
  have hsource : ((2 * c : Int) - 1 - i).toNat = 2 * c - 1 - i := by omega
  rw [hfrAt, hfrGroup, hr05, if_neg (by omega), if_neg (by omega)]
  simp only [hsource]
  rw [mirrorEntry_of_mirroredTo hch hlo hmirror, State.mirroredTo_succ hch hlo, hfrAt]
  congr 3
  push_cast
  ring

theorem hfrGroup_done (scale : BitVec 6) (j : Nat) {i : Nat} (h : s.r05.toNat ≤ i) :
    hfrGroup ch scale j (hfrAt s ch c b i) = hfrAt s ch c b i := by
  cases j with
  | zero => rfl
  | succ j => exact if_pos h

/-- A group from `i` on fills up to its end or up to R05. -/
theorem hfrGroup_hfrAt (hch : ch < 16) (hr05 : s.r05.toNat ≤ 2 * c) {g j : Nat} {i : Nat} (hlo : c ≤ i)
    (hi : i ≤ s.r05.toNat) (hgroup : ∀ x, i ≤ x → x < i + j → x < s.r05.toNat → (x - c) / b = g) :
    hfrGroup ch (entry (s.chan ch).sf (c + g)) j (hfrAt s ch c b i)
      = hfrAt s ch c b (min (i + j) s.r05.toNat) := by
  induction j generalizing i with
  | zero => rw [Nat.add_zero, Nat.min_eq_left hi]; rfl
  | succ j ih =>
    by_cases hend : s.r05.toNat ≤ i
    · rw [hfrGroup_done _ _ hend, Nat.min_eq_right (by omega), Nat.le_antisymm hi hend]
    · obtain rfl := hgroup i (Nat.le_refl i) (by omega) (by omega)
      rw [hfrGroup_step hch hlo (by omega) (by omega)]
      have hnext := ih (i := i + 1) (by omega) (by omega) fun x hx hx' => hgroup x (by omega) (by omega)
      rwa [show i + 1 + j = i + (j + 1) by omega] at hnext

/-- The loop over the groups fills the high band group by group. -/
theorem foldl_hfrGroup (hch : ch < 16) (hp : s.phase ≠ .faulted) (hb : 0 < b) (hc : c ≤ s.r05.toNat)
    (hr05 : s.r05.toNat ≤ 2 * c) (n : Nat) :
    (List.range n).foldl (fun x g => if x.2.2.phase = .faulted then x
        else hfrGroup ch (entry (x.2.2.chan ch).sf (c + g)) b x) (hfrAt s ch c b c)
      = hfrAt s ch c b (min (c + n * b) s.r05.toNat) := by
  induction n with
  | zero => rw [Nat.zero_mul, Nat.add_zero, Nat.min_eq_left hc]; rfl
  | succ n ih =>
    have hsf (i : Nat) : ((hfrAt s ch c b i).2.2.chan ch).sf = (s.chan ch).sf := by
      rw [hfrAt, State.chan_mirroredTo hch]
    have hlive (i : Nat) : (hfrAt s ch c b i).2.2.phase ≠ .faulted := hp
    rw [List.range_succ, List.foldl_append, ih, List.foldl_cons, List.foldl_nil, if_neg (hlive _), hsf,
      hfrGroup_hfrAt hch hr05 (by omega) (Nat.min_le_right _ _)]
    · congr 1
      rw [Nat.succ_mul]
      omega
    · intro x hx hx' hx5
      have hstart : c + n * b ≤ x := by omega
      refine Nat.div_eq_of_lt_le ?_ ?_
      · omega
      · rw [Nat.succ_mul]
        omega

/-- The loops fill the whole high band (R135). -/
theorem hfrLoop_eq (hch : ch < 16) (hp : s.phase ≠ .faulted) (hb : s.r08.toNat ≠ 0)
    (hc : s.r06.toNat + s.r07.toNat ≤ s.r05.toNat) (hr05 : s.r05.toNat ≤ 2 * (s.r06.toNat + s.r07.toNat))
    (hgroups : s.r05.toNat - (s.r06.toNat + s.r07.toNat) ≤ s.r09.toNat * s.r08.toNat) :
    hfrLoop ch s = s.mirroredTo ch (s.r06.toNat + s.r07.toNat) s.r08.toNat s.r05.toNat := by
  have hrun := foldl_hfrGroup hch hp (Nat.pos_of_ne_zero hb) hc hr05 s.r09.toNat
  have hstart : hfrAt s ch (s.r06.toNat + s.r07.toNat) s.r08.toNat (s.r06.toNat + s.r07.toNat)
      = (s.r06.toNat + s.r07.toNat, ((s.r06.toNat + s.r07.toNat : Nat) : Int) - 1, s) := by
    rw [hfrAt, State.mirroredTo_start hch]
    congr 2
    omega
  rw [hstart, Nat.min_eq_right (by omega)] at hrun
  exact congrArg (fun x : Nat × Int × State => x.2.2) hrun

end Loops

/-- Settles O40: the loops fill the high band by mirror images, and the last coefficient is cleared. -/
theorem hfrMirrorsTheCodedBand : Obligations.HfrMirrorsTheCodedBand := by
  refine ⟨rfl, fun j h1 h126 => hfrRatio_rounded_fin j (by omega) h1, fun s ch hp => ?_⟩
  intro k c
  refine ⟨fun hoff => ?_, fun htype h08 _ hc hr05 hgroups => ?_⟩
  · have hskip : ¬((s.chan ch.val).type ≠ .secondary ∧ s.r08.toNat ≠ 0) := by
      rintro ⟨htype, h08⟩
      exact hoff.elim htype fun h => h08 (congrArg BitVec.toNat h)
    exact congrArg Host.Outcome.next (if_neg hskip)
  · have h08' : s.r08.toNat ≠ 0 := fun h => h08 (BitVec.eq_of_toNat_eq h)
    have hloop := hfrLoop_eq ch.isLt hp h08' hc hr05 hgroups
    have hlive : (s.mirroredTo ch.val c s.r08.toNat s.r05.toNat).phase ≠ .faulted := hp
    have hrun : hfr ch.val s = s.modChan ch.val fun k =>
        { k with spec := (mirrored k c s.r08.toNat s.r05.toNat).setIfInBounds 127 0 } := by
      rw [hfr, if_pos ⟨htype, h08'⟩, hloop, State.andThen_of_not_faulted _ hlive, hfrTopClear, State.mirroredTo,
        State.modChan_modChan _ _ _ ch.isLt]
      rfl
    refine ⟨_, congrArg Host.Outcome.next hrun, ?_⟩
    refine (storesSpec_modChan s 0 (fun k => (mirrored k c s.r08.toNat s.r05.toNat).setIfInBounds 127 0)
      ch.isLt).congr fun i hi => ?_
    rw [entry_setIfInBounds, entry_mirrored _ _ _ _ hi]
    by_cases h127 : i = 127
    · rw [if_pos h127, if_pos ⟨h127.symm, hi⟩]
    · rw [if_neg h127, if_neg (fun h => h127 h.1.symm)]
      rfl

end Sys2Proof.Machine
end

section
/-! SUPPORT. What DESCRAMBLE, BLOCK_START, SYNC and NOISE do as instructions, and the field that peek delivers bit by
bit (spec/40_bitreader.md R105-R114). -/

namespace Sys2Proof.Machine

/-- The bits of the value of a list are the list, first bit most significant. -/
theorem testBit_bitsValue {l : List Bool} {n k : Nat} (hn : l.length = n) (hk : k < n) :
    (bitsValue l).testBit (n - 1 - k) = l[k] := by
  subst hn
  have hget : (msbBits l.length (bitsValue l))[k]? = l[k]? := by rw [msbBits_bitsValue]
  simpa [msbBits, hk] using hget

/-- Settles O26: a field before BITLIMIT is the value of the block's bits, and the bits of that value are those. -/
theorem readerReadsTheBitsAhead : Obligations.ReaderReadsTheBitsAhead := by
  intro s off n hn
  refine ⟨s.reader_eq_readBits hn, fun h => s.peekAt_beyond h, fun hin =>
    ⟨s.peek_lt n (by omega), fun k hk => ?_⟩⟩
  rw [State.peek, s.peekAt_eq_bitsValue hn hin, testBit_bitsValue (State.blockBits_length ..) hk]
  simp [State.blockBits]

/-- Settles O37: the substitution of the first BLOCK_SIZE bytes, read back byte by byte. -/
theorem descrambleSubstitutesOnce : Obligations.DescrambleSubstitutesOnce := by
  intro s hm hsize
  have hmem : (descramble s).mem = descrambled s.blockSize.toNat s.mem := by rw [descramble_eq]
  refine ⟨descramble s, rfl, descramble_frame s, fun i hi => ?_, fun a ha => ?_⟩ <;>
    rw [hmem, memRead_descrambled hsize hm]
  · exact if_pos ⟨Nat.le_add_right .., Nat.add_lt_add_left hi _⟩
  · exact if_neg (by omega)

theorem opSync_sync (s : State) : opSync 0xFFFF s = s.advance 16 := by
  rw [opSync, if_pos rfl]

theorem opSync_badSync {v : BitVec 16} (hv : v ≠ 0xFFFF) (s : State) :
    opSync v s = (s.advance 16).raise (.badSync v) := if_neg hv

/-- Settles O27, field by field. -/
theorem headerFields : Obligations.HeaderFields := by
  intro s
  refine ⟨fun hsize => ⟨blockStart s, rfl, rfl, ?_, rfl⟩, congrArg Host.Outcome.next (opSync_sync s),
    fun v hv => congrArg Host.Outcome.next (opSync_badSync hv s), fun hi lo => ?_⟩
  · show 8 * s.blockSize.toNat - 16 + 16 = 8 * s.blockSize.toNat
    omega
  · have hhi := hi.isLt
    have hlo := lo.isLt
    exact ⟨rfl, by omega, by omega⟩

end Sys2Proof.Machine
end

section
/-! SUPPORT. What one host access can leave, said exactly (`HostEffect`), so that an invariant of the machine is shown
for nine effects and the decoder's turn (spec/46_commands.md R160, R169). -/

namespace Sys2Proof.Machine

/-- The states a host access can leave. Its side of the bus, `port`, is the host's own. -/
inductive HostEffect (s : State) : State → Prop
  /-- RESET, in every phase (R165). -/
  | reset : HostEffect s s.resetAll
  /-- A CONFIGURE whose checks all pass (R164). -/
  | configured (hp : s.phase = .unconfigured) (hc : s.configCheck = none) : HostEffect s (opConfigure s)
  /-- A DECODE_BLOCK that is accepted (R166). -/
  | started (hp : s.phase = .configured) : HostEffect s { s with done := false, phase := .busy }
  /-- ACK (R168). -/
  | acknowledged : HostEffect s { s with done := false }
  /-- A fault (spec/60_exceptions.md R186). -/
  | raised (hp : s.phase ≠ .faulted) (c : Cause) (port : Port) : HostEffect s { s.raise c with port := port }
  /-- A refusal (spec/60_exceptions.md R186). -/
  | refused (hp : s.phase = .faulted) (port : Port) : HostEffect s { s.refuse with port := port }
  /-- A register write: outside UNCONFIGURED only of a register that is not locked. -/
  | regStored (r : Reg) (v : Word) (hp : s.phase = .unconfigured ∨ r.config = false) :
      HostEffect s (s.setReg r v)
  /-- A write of a byte: outside UNCONFIGURED only of BLOCKBUF. -/
  | byteStored (a : Nat) (v : Byte) (hp : s.phase = .unconfigured ∨ 0x10000 ≤ a) :
      HostEffect s (s.storeByte a v)
  /-- A read, or a NOP. -/
  | unchanged (port : Port) : HostEffect s { s with port := port }

section Forms

variable {s : State}

theorem hostEffect_raise (hp : s.phase ≠ .faulted) (c : Cause) : HostEffect s (s.raise c) :=
  .raised hp c s.port

theorem hostEffect_hostRead (addr : Word) (ok always : Bool) (v : Word) :
    HostEffect s (hostRead addr ok always v s) := by
  rcases hostRead_cases addr ok always v s with ⟨-, -, e⟩ | ⟨hp, -, e⟩ | ⟨hp, -, e⟩ | ⟨hp, -, -, e⟩ |
    ⟨-, -, -, e⟩ <;> rw [e]
  · exact .unchanged _
  · exact .refused hp _
  · exact .raised hp _ _
  · exact .raised (by rw [hp]; decide) _ _
  · exact .unchanged _

/-- A write that is accepted does what its store does. -/
theorem hostEffect_hostWrite (addr : Word) (ok : Bool) {locked : Bool} {store : State → State}
    (hstore : s.phase = .unconfigured ∨ locked = false → HostEffect s (store s)) :
    HostEffect s (hostWrite addr ok locked store s) := by
  rcases hostWrite_cases addr ok locked store s with ⟨hp, e⟩ | ⟨hp, -, e⟩ | ⟨hp, -, e⟩ | ⟨hp, -, -, e⟩ |
    ⟨hp, -, e⟩ <;> rw [e]
  · exact .refused hp s.port
  · exact hostEffect_raise hp _
  · exact hostEffect_raise (by rw [hp]; decide) _
  · exact hostEffect_raise (by rw [hp]; decide) _
  · exact hstore (hp.imp_right And.right)

/-- A command word does what its action does in UNCONFIGURED and CONFIGURED. -/
theorem hostEffect_hostCommand {act : State → State}
    (hact : s.phase = .unconfigured ∨ s.phase = .configured → HostEffect s (act s)) :
    HostEffect s (hostCommand act s) := by
  rcases hostCommand_cases act s with ⟨hp, e⟩ | ⟨hp, e⟩ | ⟨hp, e⟩ <;> rw [e]
  · exact .refused hp s.port
  · exact hostEffect_raise (by rw [hp]; decide) _
  · exact hact hp

theorem hostEffect_opConfigure (hp : s.phase = .unconfigured) : HostEffect s (opConfigure s) := by
  cases hc : s.configCheck with
  | none => exact .configured hp hc
  | some n =>
    rw [opConfigure, hc]
    exact hostEffect_raise (by rw [hp]; decide) _

/-- Every instruction of the host's side has one of the effects listed. -/
theorem hostEffect_of_exec {i : Instr} (hi : HostInstr i) {t : State} (h : exec i s = .next t) :
    HostEffect s t := by
  cases hi with
  | nop =>
    cases h
    exact hostEffect_hostCommand fun _ => .unchanged s.port
  | reset =>
    cases h
    exact .reset
  | configure =>
    cases h
    refine hostEffect_hostCommand fun hp => ?_
    split
    case isTrue hu => exact hostEffect_opConfigure hu
    case isFalse => exact hostEffect_raise (ne_faulted_of_ready hp) _
  | decodeBlock =>
    cases h
    refine hostEffect_hostCommand fun hp => ?_
    split
    case isTrue => exact hostEffect_raise (ne_faulted_of_ready hp) _
    case isFalse hu => exact .started (hp.resolve_left hu)
  | ack =>
    cases h
    exact hostEffect_hostCommand fun _ => .acknowledged
  | reservedCmd =>
    cases h
    exact hostEffect_hostCommand fun hp => hostEffect_raise (ne_faulted_of_ready hp) _
  | regWrite _ v =>
    cases h
    exact hostEffect_hostWrite _ _ (.regStored _ v)
  | athWrite | cipherWrite =>
    cases h
    exact hostEffect_hostWrite _ _ fun hp => .byteStored _ _ (.inl (hp.resolve_right nofun))
  | blockbufWrite =>
    cases h
    exact hostEffect_hostWrite _ _ fun _ => .byteStored _ _ (.inr (Nat.le_add_right ..))
  | regRead | athRead | cipherRead | blockbufRead | pcmbufRead =>
    cases h
    exact hostEffect_hostRead ..
  | @badAccess a =>
    rw [exec, execBadAccess] at h
    split at h <;> cases h
    · exact hostEffect_hostRead ..
    · exact hostEffect_hostWrite _ _ fun _ => .unchanged s.port

end Forms

/-- A step is a host access or the decoder's turn. -/
theorem step_effect {s t : State} (h : step s = .next t) :
    HostEffect s.afterEvent t ∨ t = decoderStep Config.params s.afterEvent := by
  have hturn (hd : s.DecoderTurn) : t = decoderStep Config.params s.afterEvent :=
    (Host.Outcome.next.inj ((step_of_turn hd).symm.trans h)).symm
  cases hin : s.port.inbox with
  | nil => exact .inr (hturn (.inl hin))
  | cons e rest =>
    cases e with
    | access a => exact .inl (hostEffect_of_exec (hostInstr_decode a) ((step_of_access hin).symm.trans h))
    | decoder => exact .inr (hturn (.inr ⟨rest, hin⟩))

/-! ### CONFIGURE -/

theorem alike_assignChannels (s : State) : Alike s s.assignChannels :=
  foldl_keeps (P := Alike s) (f := fun t ch =>
    t.modChan ch fun k => { k with type := s.typeOf ch, count := s.countOf ch }) (fun _ _ _ ht => ht) s rfl

theorem opConfigure_eq {s : State} (hc : s.configCheck = none) :
    opConfigure s = { s with
      chans := s.assignChannels.chans, r09 := BitVec.ofNat 32 s.hfrGroups, chType := s.chTypeOf,
      phase := .configured, done := true } := by
  have hassign : s.assignChannels = { s with chans := s.assignChannels.chans } :=
    (congrArg (fun t : State => ({ t with chans := s.assignChannels.chans } : State)) (alike_assignChannels s) :)
  rw [opConfigure, hc]
  dsimp only
  rw [hassign]

/-- TYPE and COUNT of the channels below CHANNELS are those of the present configuration; the others stay. -/
theorem chan_assignChannels (s : State) {ch : Nat} (h : ch < 16) :
    s.assignChannels.chan ch = if ch < s.channels.toNat then
      { s.chan ch with type := s.typeOf ch, count := s.countOf ch } else s.chan ch := by
  have hbelow (n : Nat) : ((List.range n).foldl
      (fun t c => t.modChan c fun k => { k with type := s.typeOf c, count := s.countOf c }) s).chan ch
        = if ch < n then { s.chan ch with type := s.typeOf ch, count := s.countOf ch } else s.chan ch := by
    induction n with
    | zero => rfl
    | succ n ih =>
      rw [List.range_succ, List.foldl_append, List.foldl_cons, List.foldl_nil]
      by_cases hn : ch = n
      · subst hn
        rw [State.chan_modChan_self _ _ h, ih, if_neg (Nat.lt_irrefl ch), if_pos (Nat.lt_succ_self ch)]
      · have hiff : ch < n + 1 ↔ ch < n := by omega
        rw [State.chan_modChan_ne _ _ hn, ih]
        simp only [hiff]
  exact hbelow s.channels.toNat

end Sys2Proof.Machine
end

section
/-! SUPPORT. How many bits each stage takes at most (spec/40_bitreader.md R112), and that no step takes BITPOS beyond
231424 = 32 + 16 x (2174 + 8 x 1536): two header fields, and for each channel its side information and eight times
128 code words. -/

namespace Sys2Proof.Machine

/-! ### The sizes of a configured stream -/

/-- The bounds on CHANNELS, COUNT and R09 that a checked configuration gives. -/
structure State.Sized (s : State) : Prop where
  channels : s.channels.toNat ≤ 16
  count : ∀ ch, (s.chan ch).count ≤ 128
  groups : s.r09.toNat ≤ 128

theorem ceilDiv_le {a b : Nat} (hb : 0 < b) : ceilDiv a b ≤ a := by
  refine Nat.le_of_lt_succ ((Nat.div_lt_iff_lt_mul hb).mpr ?_)
  have hmul := Nat.le_mul_of_pos_right a hb
  rw [Nat.succ_mul]
  omega

theorem hfrGroups_le (s : State) : s.hfrGroups ≤ s.r05.toNat := by
  unfold State.hfrGroups
  split
  · exact Nat.zero_le _
  · exact (ceilDiv_le (by omega)).trans (Nat.sub_le ..)

theorem countOf_le (s : State) (ch : Nat) : s.countOf ch ≤ s.r06.toNat + s.r07.toNat := by
  unfold State.countOf
  split <;> omega

theorem sized_of_derived {s : State} (h : s.Derived) : s.Sized := by
  obtain ⟨hcheck, hr09, -, hchan⟩ := h
  have hconditions := conditions_of_configCheck hcheck
  obtain ⟨h05, -⟩ : s.condition 5 := hconditions 5 (by decide) (by decide)
  have hbands : s.r06.toNat + s.r07.toNat ≤ s.r05.toNat := hconditions 6 (by decide) (by decide)
  refine ⟨channels_le_of_configCheck hcheck, fun ch => ?_, ?_⟩
  · by_cases hch : ch < 16
    · rw [(hchan ch hch).2]
      split
      · exact (countOf_le s ch).trans (hbands.trans h05)
      · exact Nat.zero_le _
    · rw [s.chan_outside (by omega)]
      exact Nat.zero_le _
  · rw [hr09, BitVec.toNat_ofNat]
    exact (Nat.mod_le ..).trans ((hfrGroups_le s).trans h05)

theorem State.Sized.of_stageStep {s t : State} (hs : s.Sized) (h : StageStep s t) : t.Sized := by
  obtain ⟨-, hkind, -⟩ := id h
  refine ⟨h.channels ▸ hs.channels, fun ch => ?_, h.r09 ▸ hs.groups⟩
  rw [(hkind ch).2]
  exact hs.count ch

theorem State.Sized.descramble {s : State} (hs : s.Sized) : (descramble s).Sized := by
  rw [descramble_eq]
  exact ⟨hs.channels, hs.count, hs.groups⟩

/-! ### Operations that take at most so many bits -/

/-- An operation of the stages that takes at most `n` bits. -/
structure Takes (n : Nat) (s t : State) : Prop where
  stage : StageStep s t
  bits : t.bitPos ≤ s.bitPos + n

section Takes

variable {m n : Nat} {s t u : State}

theorem Takes.refl (n : Nat) (s : State) : Takes n s s := ⟨.refl s, Nat.le_add_right ..⟩

theorem Takes.of_bitPos (h : StageStep s t) (hb : t.bitPos = s.bitPos) : Takes 0 s t := ⟨h, hb.le⟩

theorem Takes.mono (h : Takes m s t) (hmn : m ≤ n) : Takes n s t :=
  ⟨h.stage, h.bits.trans (Nat.add_le_add_left hmn _)⟩

theorem Takes.trans (h : Takes m s t) (h' : Takes n t u) : Takes (m + n) s u :=
  ⟨h.stage.trans h'.stage, by have := h.bits; have := h'.bits; omega⟩

theorem Takes.andThen {f : State → State} (h : Takes m s t) (hf : t.Sized → Takes n t (f t)) (hs : s.Sized) :
    Takes (m + n) s (t.andThen f) := by
  rcases t.andThen_cases f with ⟨-, e⟩ | ⟨-, e⟩ <;> rw [e]
  · exact h.mono (Nat.le_add_right ..)
  · exact h.trans (hf (hs.of_stageStep h.stage))

/-- A loop takes at most what one pass takes for each of its passes. -/
theorem takes_foldl {α : Type} {l : List α} {f : State → α → State}
    (hf : ∀ a ∈ l, ∀ u : State, u.Sized → Takes n u (f u a)) :
    ∀ s : State, s.Sized → Takes (l.length * n) s (l.foldl f s) := by
  induction l with
  | nil => exact fun s _ => .refl _ s
  | cons a l ih =>
    intro s hs
    have hpass := hf a List.mem_cons_self s hs
    have hrest := ih (fun b hb => hf b (List.mem_cons_of_mem a hb)) _ (hs.of_stageStep hpass.stage)
    rw [List.foldl_cons, List.length_cons, Nat.succ_mul, Nat.add_comm]
    exact hpass.trans hrest

theorem takes_forEach {α : Type} {l : List α} {f : α → State → State}
    (hf : ∀ a ∈ l, ∀ u : State, u.Sized → Takes n u (f a u)) (hs : s.Sized) :
    Takes (l.length * n) s (forEach l f s) :=
  takes_foldl (fun a ha u hu => ((Takes.refl 0 u).andThen (hf a ha u) hu).mono (Nat.zero_add n).le) s hs

/-- The loop over the channels, where there are at most `c`. -/
theorem takes_forEach_range {f : Nat → State → State} {c : Nat} {k : Nat} (hk : k ≤ c)
    (hf : ∀ (ch : Nat) (u : State), u.Sized → Takes n u (f ch u)) (hs : s.Sized) :
    Takes (c * n) s (forEach (List.range k) f s) :=
  (takes_forEach (fun ch _ => hf ch) hs).mono (Nat.mul_le_mul_right n (by rwa [List.length_range]))

end Takes

/-! ### Stage 1 -/

section Stages

variable {s : State}

/-- A delta code takes at most five bits and an escape six more. -/
theorem takes_deltaStep (ch : Nat) {m : Nat} (hm : m ≤ 5) (i : Nat) (s : State) :
    Takes 11 s (deltaStep ch m i s) := by
  unfold deltaStep
  split
  · refine ⟨stageStep_opSfEscape .., ?_⟩
    show s.bitPos + (m + 6) ≤ s.bitPos + 11
    omega
  · refine ⟨stageStep_opSfDelta .., ?_⟩
    have hbits : (opSfDelta ch i m (s.peek m) s).bitPos = s.bitPos + m := by
      unfold opSfDelta
      simp only
      split <;> rfl
    omega

theorem takes_sfDeltaRun (hs : s.Sized) (ch : Nat) {m : Nat} (hm : m ≤ 5) :
    Takes (6 + 127 * 11) s (sfDeltaRun ch m s) := by
  have hfirst : Takes 6 s (opSfFirst ch (BitVec.ofNat 6 (s.peek 6)) s) := ⟨stageStep_opSfFirst .., Nat.le_refl _⟩
  have hcount := hs.count ch
  have hrun := takes_forEach (l := List.range' 1 ((s.chan ch).count - 1))
    (fun i _ u _ => takes_deltaStep ch hm i u) (hs.of_stageStep hfirst.stage)
  rw [List.length_range'] at hrun
  exact hfirst.trans (hrun.mono (by omega))

theorem takes_scaleFactors (hs : s.Sized) (ch : Nat) : Takes 1406 s (scaleFactors ch s) := by
  have hmode : Takes 3 s (opSfmode s) := ⟨.advance s 3, Nat.le_refl _⟩
  have hmode' : (opSfmode s).Sized := hs.of_stageStep hmode.stage
  unfold scaleFactors
  simp only
  split
  · exact (hmode.trans (.of_bitPos (stageStep_opSfZero ch _) rfl)).mono (by decide)
  · split
    · have hraw : Takes (6 * (s.chan ch).count) (opSfmode s)
          (opSfRaw ch (fieldList (opSfmode s).reader 6 ((opSfmode s).chan ch).count) (opSfmode s)) := by
        refine ⟨stageStep_opSfRaw .., ?_⟩
        show (opSfmode s).bitPos + 6 * (fieldList _ 6 _).length ≤ _
        rw [fieldList_length]
        rfl
      have hcount := hs.count ch
      exact (hmode.trans hraw).mono (by omega)
    · exact hmode.trans (takes_sfDeltaRun hmode' ch (by omega))

theorem takes_extension (hs : s.Sized) (ch : Nat) : Takes 768 s (extension ch s) := by
  refine ⟨stageStep_extension ch s, ?_⟩
  unfold extension intensityField
  split
  · split
    · show s.bitPos + 4 * (fieldList s.reader 4 8).length ≤ s.bitPos + 768
      rw [fieldList_length]
      omega
    · exact Nat.le_add_right ..
  · show s.bitPos + 6 * (fieldList s.reader 6 s.r09.toNat).length ≤ s.bitPos + 768
    rw [fieldList_length]
    have hgroups := hs.groups
    omega

theorem takes_stage1 (hs : s.Sized) (ch : Nat) : Takes 2174 s (stage1 ch s) :=
  ((takes_scaleFactors hs ch).andThen (fun h => takes_extension h ch) hs).andThen
    (fun _ => .of_bitPos (stageStep_derive ch _) rfl) hs

/-! ### The stages of a subframe -/

theorem maxBits_le_twelve {r : Nat} (hr : r < 16) : maxBits r ≤ 12 := by interval_cases r <;> decide

/-- What all members of a list satisfy, and the default too, its entries satisfy. -/
theorem getD_of_forall_mem {α : Type} {P : α → Prop} {l : List α} (h : ∀ x ∈ l, P x) {d : α} (hd : P d)
    (i : Nat) : P (l.getD i d) := by
  rw [List.getD_eq_getElem?_getD]
  cases hx : l[i]? with
  | none => exact hd
  | some x => exact h x (List.mem_of_getElem? hx)

/-- Every entry of CODELEN is at most 4 (spec/30_encoding.md R94). -/
theorem codeLen_le (r v : Nat) : codeLen r v ≤ 4 :=
  getD_of_forall_mem
    (getD_of_forall_mem (P := fun row : List Nat => ∀ n ∈ row, n ≤ 4) (by decide) (List.forall_mem_nil _) r)
    (Nat.zero_le 4) v

theorem largeCode_length_le (w code : Nat) : (largeCode w code).1 ≤ w := by
  unfold largeCode
  simp only
  split <;> omega

theorem takes_dequantStep (ch i : Nat) (s : State) : Takes 12 s (dequantStep ch i s) := by
  refine ⟨stageStep_opCode .., Nat.add_le_add_left ?_ s.bitPos⟩
  split
  · exact (codeLen_le ..).trans (by decide)
  · exact (largeCode_length_le ..).trans (maxBits_le_twelve (entry (s.chan ch).res i).isLt)

theorem takes_dequant (hs : s.Sized) (ch : Nat) : Takes 1536 s (dequant ch s) := by
  have hcodes := takes_foldl (l := List.range (s.chan ch).count)
    (fun i _ u _ => takes_dequantStep ch i u) s hs
  have hcount := hs.count ch
  rw [List.length_range] at hcodes
  refine ⟨stageStep_dequant ch s, ?_⟩
  have hbits := hcodes.bits
  show (dequantCodes ch s).bitPos ≤ s.bitPos + 1536
  rw [dequantCodes]
  omega

theorem hfrGroup_bitPos (ch : Nat) (scale : BitVec 6) (j : Nat) :
    ∀ k l s, (hfrGroup ch scale j (k, l, s)).2.2.bitPos = s.bitPos := by
  induction j with
  | zero => exact fun _ _ _ => rfl
  | succ j ih =>
    intro k l s
    rw [hfrGroup]
    split
    · rfl
    · split
      · rfl
      · exact ih ..

theorem takes_hfr (ch : Nat) (s : State) : Takes 0 s (hfr ch s) := by
  have hloop : (hfrLoop ch s).bitPos = s.bitPos := by
    refine foldl_keeps (P := fun x : Nat × Int × State => x.2.2.bitPos = s.bitPos) (fun g _ x hx => ?_) _ rfl
    split
    · exact hx
    · exact (hfrGroup_bitPos ..).trans hx
  refine .of_bitPos (stageStep_hfr ch s) ?_
  unfold hfr
  split
  · rcases (hfrLoop ch s).andThen_cases (hfrTopClear ch) with ⟨-, e⟩ | ⟨-, e⟩ <;> rw [e] <;> exact hloop
  · rfl

theorem takes_intensity (p : Config.Params) (ch sf : Nat) (s : State) : Takes 0 s (intensity p ch sf s) := by
  refine .of_bitPos (stageStep_intensity p ch sf s) ?_
  unfold intensity
  simp only
  split
  · exact foldl_keeps (P := fun t : State => t.bitPos = s.bitPos)
      (f := fun t i => intensityStep ch _ _ i t) (fun _ _ _ ht => ht) s rfl
  · rfl

theorem takes_subframe (hs : s.Sized) (p : Config.Params) (sf : Nat) : Takes (16 * 1536) s (subframe p sf s) := by
  have hdequant := takes_forEach_range hs.channels (fun ch u hu => takes_dequant hu ch) hs
  have hs₁ := hs.of_stageStep hdequant.stage
  have hhfr := takes_forEach_range hs.channels (fun ch u _ => takes_hfr ch u) hs₁
  have hs₂ := hs₁.of_stageStep hhfr.stage
  have hintensity := takes_forEach_range ((Nat.sub_le _ 1).trans hs.channels)
    (fun ch u _ => takes_intensity p ch sf u) hs₂
  have hs₃ := hs₂.of_stageStep hintensity.stage
  have hsynth := takes_forEach_range hs.channels
    (fun ch u _ => .of_bitPos (stageStep_synth p ch sf u) rfl) hs₃
  exact ((hdequant.trans hhfr).trans hintensity).trans hsynth

theorem takes_bodyStages (hs : s.Sized) (p : Config.Params) :
    Takes (16 * (2174 + 8 * 1536)) s (bodyStages p s) := by
  have hside := takes_forEach_range hs.channels (fun ch u hu => takes_stage1 hu ch) hs
  have hframes := takes_forEach_range (Nat.le_refl 8) (fun sf u hu => takes_subframe hu p sf)
    (hs.of_stageStep hside.stage)
  exact hside.trans hframes

end Stages

/-! ### The body and the step -/

theorem bodyHead_bitPos (s : State) : (bodyHead s).bitPos = 16 := by
  unfold bodyHead syncField opSync
  simp only
  split <;> rfl

theorem pcmOut_bitPos (s : State) : (pcmOut s).bitPos = s.bitPos := by
  rcases pcmOut_cases s with ⟨p, -, e⟩ | ⟨c, -, e⟩ <;> exact (congrArg State.bitPos e :)

/-- A body begins at BITPOS 0 and takes at most 231424 bits. -/
theorem decodeBody_bitPos_le {s : State} (hs : s.Sized) (p : Config.Params) :
    (decodeBody p s).BitPosBounded := by
  have hhead : (bodyHead s).Sized := hs.descramble.of_stageStep (stageStep_bodyHead s)
  have hnoise : Takes 16 (bodyHead s) ((bodyHead s).andThen noiseField) :=
    (Takes.refl 0 _).andThen (fun _ => ⟨stageStep_noiseField _, Nat.le_refl _⟩) hhead
  have hbody := (hnoise.trans (takes_bodyStages (hhead.of_stageStep hnoise.stage) p)).bits
  rw [bodyHead_bitPos] at hbody
  rw [decodeBody_eq, State.BitPosBounded]
  generalize bodyStages p ((bodyHead s).andThen noiseField) = u at hbody
  have hpcm : (u.andThen pcmOut).bitPos = u.bitPos := by
    rcases u.andThen_cases pcmOut with ⟨-, e⟩ | ⟨-, e⟩
    · rw [e]
    · rw [e, pcmOut_bitPos]
  rcases bodyEnd_cases (u.andThen pcmOut) with ⟨-, e⟩ | ⟨-, e⟩ <;> rw [e] <;> exact hpcm.trans_le hbody

/-- A host access leaves BITPOS as it is, or resets it. -/
theorem HostEffect.bitPos {s t : State} (h : HostEffect s t) : t.bitPos = s.bitPos ∨ t.bitPos = 0 := by
  cases h with
  | reset => exact .inr rfl
  | configured hp hc => exact .inl (congrArg State.bitPos (opConfigure_eq hc) :)
  | regStored r v hp =>
    left
    cases r <;> rfl
  | _ => exact .inl rfl

theorem State.BitPosBounded.decoderStep {s : State} (h : s.BitPosBounded) (hc : s.Configured)
    (p : Config.Params) : (decoderStep p s).BitPosBounded := by
  rcases decoderStep_cases p s with ⟨-, e⟩ | ⟨hp, e⟩ <;> rw [e]
  · exact h
  · exact decodeBody_bitPos_le (sized_of_derived (hc (.inr hp))) p

theorem State.BitPosBounded.hostEffect {s t : State} (h : s.BitPosBounded) (he : HostEffect s t) :
    t.BitPosBounded := by
  unfold State.BitPosBounded at h ⊢
  rcases he.bitPos with e | e <;> omega

/-- Settles O53: a host access does not move BITPOS forward, and a body takes at most 231424 bits. -/
theorem stepKeepsBitPosBounded : Obligations.StepKeepsBitPosBounded := by
  intro s t hc h hstep
  have hafter : s.afterEvent.BitPosBounded := h
  rcases step_effect hstep with he | rfl
  · exact hafter.hostEffect he
  · exact hafter.decoderStep hc _

end Sys2Proof.Machine
end

section
/-! SUPPORT. Every step keeps a state good (spec/40_bitreader.md R112, spec/46_commands.md R164, R172,
spec/60_exceptions.md R184): first the effects of a host access, then the two ends of a body. -/

namespace Sys2Proof.Machine

/-! ### The effects of a host access -/

/-- Every cause has a code of 1..10 (spec/60_exceptions.md R173). -/
theorem Cause.code_range (c : Cause) : c.code ≠ 0 ∧ c.code.toNat ≤ 10 := by
  cases c <;> simp [Cause.code]

section Host

variable {s : State}

/-- What is good does not depend on the host's side of the bus. -/
theorem State.Good.withPort (h : s.Good) (port : Port) : { s with port := port }.Good :=
  ⟨h.canonical, h.faultRecord, h.configured, h.fresh, h.bitPosBounded, h.tailZero⟩

theorem good_resetAll (s : State) : s.resetAll.Good where
  canonical := ⟨rfl, rfl⟩
  faultRecord := ⟨⟨nofun, fun h => absurd rfl h⟩, Nat.zero_le _, fun _ => rfl, nofun⟩
  configured := nofun
  fresh := fun _ => ⟨rfl, rfl, rfl, rfl, rfl, rfl⟩
  bitPosBounded := Nat.zero_le _
  tailZero := fun _ _ => rfl

theorem State.Good.raise (h : s.Good) (c : Cause) : (s.raise c).Good where
  canonical := h.canonical
  faultRecord := ⟨⟨fun _ => c.code_range.1, fun _ => rfl⟩, c.code_range.2, fun h0 => absurd h0 c.code_range.1,
    fun _ => rfl⟩
  configured := nofun
  fresh := nofun
  bitPosBounded := h.bitPosBounded
  tailZero := h.tailZero

theorem State.Good.refuse (h : s.Good) (hp : s.phase = .faulted) : s.refuse.Good where
  canonical := h.canonical
  faultRecord := by
    obtain ⟨hcode, hrange, hinfo, -⟩ := h.faultRecord
    exact ⟨hcode, hrange, hinfo, fun _ => hp⟩
  configured := h.configured
  fresh := h.fresh
  bitPosBounded := h.bitPosBounded
  tailZero := h.tailZero

/-- Outside FAULTED nothing is recorded, in a good state. -/
theorem State.FaultRecord.clear (h : s.FaultRecord) (hp : s.phase ≠ .faulted) :
    s.faultCode = 0 ∧ s.refused = false := by
  obtain ⟨hcode, -, -, hrefused⟩ := h
  refine ⟨?_, ?_⟩
  · by_contra hne
    exact hp (hcode.mpr hne)
  · by_contra hne
    exact hp (hrefused (by simpa using hne))

/-- A change of phase outside FAULTED keeps the fault record. -/
theorem State.FaultRecord.of_clear {t : State} (h : s.FaultRecord) (hp : s.phase ≠ .faulted)
    (hp' : t.phase ≠ .faulted) (hcode : t.faultCode = s.faultCode) (hinfo : t.faultInfo = s.faultInfo)
    (hrefused : t.refused = s.refused) : t.FaultRecord := by
  obtain ⟨hcode0, hrefused0⟩ := h.clear hp
  obtain ⟨-, -, hinfo0, -⟩ := h
  rw [hcode0] at hcode
  refine ⟨⟨fun hf => absurd hf hp', fun hne => absurd hcode hne⟩, ?_, fun _ => hinfo.trans (hinfo0 hcode0), fun hr => ?_⟩
  · rw [hcode]
    decide
  · rw [hrefused, hrefused0] at hr
    cases hr

theorem State.Good.started (h : s.Good) (hp : s.phase = .configured) :
    { s with done := false, phase := .busy }.Good where
  canonical := h.canonical
  faultRecord := h.faultRecord.of_clear (by rw [hp]; decide) nofun rfl rfl rfl
  configured := fun _ => h.configured (.inl hp)
  fresh := nofun
  bitPosBounded := h.bitPosBounded
  tailZero := h.tailZero

theorem State.Good.acknowledged (h : s.Good) : { s with done := false }.Good where
  canonical := h.canonical
  faultRecord := h.faultRecord
  configured := h.configured
  fresh := fun hp => by
    obtain ⟨hchans, hpcm, hpos, hnoise, hblocks, -⟩ := h.fresh hp
    exact ⟨hchans, hpcm, hpos, hnoise, hblocks, rfl⟩
  bitPosBounded := h.bitPosBounded
  tailZero := h.tailZero

theorem State.Good.storeByte (h : s.Good) (a : Nat) (v : Byte) : (s.storeByte a v).Good :=
  ⟨h.canonical.storeByte a v, h.faultRecord, h.configured, h.fresh, h.bitPosBounded, h.tailZero⟩

theorem setReg_of_not_config {r : Reg} (hr : r.config = false) (s : State) (v : Word) :
    s.setReg r v = { s with irqEn := (s.setReg r v).irqEn } := by
  cases r <;> cases hr <;> rfl

/-- A register that is written outside UNCONFIGURED is no part of what is good; in UNCONFIGURED nothing is derived from
the registers yet and PCMBUF is empty. -/
theorem State.Good.setReg (h : s.Good) {r : Reg} (v : Word) (hr : s.phase = .unconfigured ∨ r.config = false) :
    (s.setReg r v).Good := by
  rcases hr with hp | hr
  · have hp' := (setReg_phase s r v).trans hp
    obtain ⟨-, hpcm, -⟩ := h.fresh hp
    have hpcm' : (s.setReg r v).pcm = [] := by cases r <;> exact hpcm
    refine ⟨h.canonical.setReg r v, ?_, fun hc => ?_, ?_, ?_, fun w _ => ?_⟩
    · cases r <;> exact h.faultRecord
    · rw [hp'] at hc
      cases hc <;> contradiction
    · cases r <;> exact h.fresh
    · cases r <;> exact h.bitPosBounded
    · rw [hpcm']
      rfl
  · rw [setReg_of_not_config hr]
    exact ⟨h.canonical, h.faultRecord, h.configured, h.fresh, h.bitPosBounded, h.tailZero⟩

/-! ### CONFIGURE -/

/-- CONFIGURE derives what is asked of a configured state: it writes TYPE and COUNT below CHANNELS, and from CHANNELS
on they are as after reset. -/
theorem derived_opConfigure (hp : s.phase = .unconfigured) (hfresh : s.Fresh) (hc : s.configCheck = none) :
    (opConfigure s).Derived := by
  obtain ⟨hchans, -⟩ := hfresh hp
  rw [opConfigure_eq hc]
  refine ⟨hc, rfl, rfl, fun ch hch => ?_⟩
  have hreset : s.chan ch = Channel.reset := by
    rw [State.chan_congr hchans]
    simp [State.chan, State.reset, hch]
  have hchan := chan_assignChannels s hch
  change (s.assignChannels.chan ch).type = (if ch < s.channels.toNat then s.typeOf ch else .discrete)
    ∧ (s.assignChannels.chan ch).count = if ch < s.channels.toNat then s.countOf ch else 0
  rw [hchan, hreset]
  split <;> exact ⟨rfl, rfl⟩

theorem State.Good.opConfigure (h : s.Good) (hp : s.phase = .unconfigured) (hc : s.configCheck = none) :
    (opConfigure s).Good := by
  have hderived := derived_opConfigure hp h.fresh hc
  have hcanonical := h.canonical.opConfigure
  rw [opConfigure_eq hc] at hderived hcanonical ⊢
  exact ⟨hcanonical, h.faultRecord.of_clear (by rw [hp]; decide) nofun rfl rfl rfl, fun _ => hderived, nofun,
    h.bitPosBounded, h.tailZero⟩

theorem State.Good.hostEffect {t : State} (h : s.Good) (he : HostEffect s t) : t.Good := by
  cases he with
  | reset => exact good_resetAll s
  | configured hp hc => exact h.opConfigure hp hc
  | started hp => exact h.started hp
  | acknowledged => exact h.acknowledged
  | raised _ c port => exact (h.raise c).withPort port
  | refused hp port => exact (h.refuse hp).withPort port
  | regStored r v hr => exact h.setReg v hr
  | byteStored a v _ => exact h.storeByte a v
  | unchanged port => exact h.withPort port

end Host

/-! ### The decoder's turn -/

section Body

variable {s t : State}

/-- What is derived depends on the registers and on TYPE and COUNT only. -/
theorem State.Derived.congr (h : s.Derived)
    (hframe : { t with
      phase := s.phase, done := s.done, faultCode := s.faultCode, faultInfo := s.faultInfo,
      bitPos := s.bitPos, blocksDone := s.blocksDone, noise := s.noise, bitLimit := s.bitLimit,
      chans := s.chans, mem := s.mem, pcm := s.pcm } = s)
    (hkind : ∀ ch, (t.chan ch).type = (s.chan ch).type ∧ (t.chan ch).count = (s.chan ch).count) : t.Derived := by
  rw [← hframe] at h
  obtain ⟨hcheck, hr09, hchType, hchan⟩ := h
  refine ⟨hcheck, hr09, hchType, fun ch hch => ?_⟩
  obtain ⟨htype, hcount⟩ := hkind ch
  rw [htype, hcount]
  exact hchan ch hch

/-- A body begun in BUSY ends with the fault record as it is asked of a good state. -/
theorem BodyOutcome.faultRecord (hout : BodyOutcome s t) (h : s.FaultRecord) (hp : s.phase ≠ .faulted) :
    t.FaultRecord := by
  cases hout with
  | @faulted u _ hphase hcode =>
    have hne : u.faultCode ≠ 0 := fun h0 => absurd hcode.1 (by rw [h0]; decide)
    exact ⟨⟨fun _ => hne, fun _ => hphase⟩, hcode.2, fun h0 => absurd h0 hne, fun _ => hphase⟩
  | completed hu hcode hinfo =>
    exact h.of_clear hp nofun hcode hinfo (congrArg State.refused hu.frame_of_descramble :)

/-- A body that completes leaves the configuration and what was derived from it. -/
theorem BodyOutcome.configured (hout : BodyOutcome s t) (h : s.Derived) : t.Configured := by
  have hframe := hout.frame
  cases hout with
  | faulted _ hphase =>
    intro hc
    rcases hc with hc | hc <;> cases hphase.symm.trans hc
  | completed hu =>
    refine fun _ => h.congr hframe fun ch => ?_
    obtain ⟨-, hkind, -⟩ := hu
    rw [descramble_eq] at hkind
    exact hkind ch

theorem BodyOutcome.phase (hout : BodyOutcome s t) : t.phase = .faulted ∨ t.phase = .configured := by
  cases hout with
  | faulted _ hphase => exact .inl hphase
  | completed => exact .inr rfl

theorem BodyOutcome.tailZero (hout : BodyOutcome s t) (hpcm : pcmWf s.pcm = true) (h : s.TailZero) :
    t.TailZero := by
  have hchannels : t.channels = s.channels := (congrArg State.channels hout.frame :)
  intro w hw
  rw [hchannels] at hw
  rw [(hout.pcm_keeps hpcm).2 w hw, h w hw]

theorem State.Good.decoderStep (h : s.Good) (p : Config.Params) : (decoderStep p s).Good := by
  have hcanonical := h.canonical.decoderStep p
  have hpos := h.bitPosBounded.decoderStep h.configured p
  rcases decoderStep_cases p s with ⟨-, e⟩ | ⟨hp, e⟩
  · rwa [e]
  · have hne : s.phase ≠ .faulted := by rw [hp]; decide
    have hout := bodyOutcome_decodeBody p hne
    rw [e] at hcanonical hpos ⊢
    refine ⟨hcanonical, hout.faultRecord h.faultRecord hne, hout.configured (h.configured (.inr hp)), fun hu => ?_,
      hpos, hout.tailZero h.canonical.2 h.tailZero⟩
    rcases hout.phase with hend | hend <;> cases hend.symm.trans hu

end Body

/-- Settles O54: the effects of a host access and the decoder's turn each keep a state good. -/
theorem stepKeepsGood : Obligations.StepKeepsGood := by
  intro s t h hstep
  have hafter : s.afterEvent.Good := h.withPort _
  rcases step_effect hstep with he | rfl
  · exact hafter.hostEffect he
  · exact hafter.decoderStep _

end Sys2Proof.Machine
end

section
/-! SUPPORT. The side information as instructions (spec/41_side_info.md R118-R121), and STAGE1 without delta codes
(R115-R127): each field stores SF or INT of its channel, and `StoresSide` adds the stores up. -/

namespace Sys2Proof.Machine

/-! ### The fields as instructions -/

/-- The information word of ScaleFactorRange (spec/60_exceptions.md R181): the index does not reach the channel. -/
theorem shiftLeft_or_index (ch : Nat) (i : Idx) : ch <<< 8 ||| i.val = 256 * ch + i.val := by
  rw [← Nat.shiftLeft_add_eq_or_of_lt (by omega), Nat.shiftLeft_eq, Nat.mul_comm]

/-- Settles O29, by what the operations of the delta fields store. -/
theorem scaleFactorDeltas : Obligations.ScaleFactorDeltas := by
  intro s ch
  refine ⟨fun v => ⟨_, rfl, opSfFirst_stores s v ch.isLt⟩, fun i m _ _ _ =>
    ⟨fun v => ⟨_, rfl, opSfEscape_stores s i.val m.toNat v ch.isLt⟩, fun d _ => ?_⟩⟩
  intro v
  rcases opSfDelta_cases s i.val m.toNat d.toNat ch.isLt with ⟨h0, h63, hstores⟩ | ⟨hout, hraise⟩
  · have hv : BitVec.ofInt 6 v = BitVec.ofNat 6 v.toNat := by
      rw [← BitVec.ofInt_natCast, Int.toNat_of_nonneg h0]
    exact ⟨fun _ => ⟨_, rfl, hv ▸ hstores⟩, fun hout => absurd hout (not_or.mpr ⟨h0.not_gt, h63.not_gt⟩)⟩
  · refine ⟨fun hin => absurd hout (not_or.mpr ⟨hin.1.not_gt, hin.2.not_gt⟩), fun _ => ?_⟩
    rw [← shiftLeft_or_index]
    exact congrArg Host.Outcome.next hraise

/-- Settles O30, by what the operations of the extension fields store. -/
theorem extensionFields : Obligations.ExtensionFields := by
  intro s ch
  refine ⟨fun vs hlen => ⟨_, rfl, ?_⟩, ⟨_, rfl, opIntensityAll15_stores s ch.isLt⟩,
    fun vs _ => ⟨_, rfl, opHfrScale_stores s vs ch.isLt⟩⟩
  have hstores := opIntensitySet_stores s vs ch.isLt
  rw [hlen] at hstores
  exact hstores.congr fun j hj => if_pos hj

/-! ### Consecutive fields -/

theorem toNat_getD_fieldList (s : State) {n count j : Nat} (hn : n ≤ 17) (hj : j < count) :
    ((fieldList s.reader n count).getD j 0).toNat = s.peekAt (s.bitPos + n * j) n := by
  have hget : (fieldList s.reader n count).getD j 0 = BitVec.ofNat n (s.reader (n * j) n) := by
    simp [fieldList, hj]
  rw [hget, BitVec.toNat_ofNat, State.reader, Nat.mod_eq_of_lt (s.peekAt_lt _ n hn)]

/-! ### What the side information stores -/

/-- A channel with the arrays of another that STAGE1 writes. -/
def Channel.withSide (k k' : Channel) : Channel :=
  { k with sf := k'.sf, int := k'.int, res := k'.res, base := k'.base }

/-- BITPOS moves by `n` bits; of the rest only SF, INT, RES and BASE of `ch` change, SF to the entries `f` gives and INT
to those `g` gives. -/
structure StoresSide (s t : State) (ch n : Nat) (f g : Nat → Nat) : Prop where
  bitPos : t.bitPos = s.bitPos + n
  datapath : OnlyDatapath s t
  channel : OnlyChannel s t ch
  frame : (t.chan ch).withSide (s.chan ch) = s.chan ch
  sf : ∀ i, i < 128 → (entry (t.chan ch).sf i).toNat = f i
  int : ∀ j, j < 8 → (entry (t.chan ch).int j).toNat = g j

section Side

variable {ch n m : Nat} {s t u : State} {f g : Nat → Nat}

theorem StoresSide.advance (s : State) (ch n : Nat) :
    StoresSide s (s.advance n) ch n (fun i => (entry (s.chan ch).sf i).toNat)
      fun j => (entry (s.chan ch).int j).toNat :=
  ⟨rfl, rfl, fun _ _ => rfl, rfl, fun _ _ => rfl, fun _ _ => rfl⟩

theorem OnlyDatapath.trans (h : OnlyDatapath s t) (h' : OnlyDatapath t u) : OnlyDatapath s u :=
  (congrArg (fun v : State => { v with bitPos := s.bitPos, chans := s.chans }) h' :).trans h

theorem OnlyChannel.trans (h : OnlyChannel s t ch) (h' : OnlyChannel t u ch) : OnlyChannel s u ch :=
  fun c hc => (h' c hc).trans (h c hc)

theorem OnlyDatapath.peekAt (h : OnlyDatapath s t) (p n : Nat) : t.peekAt p n = s.peekAt p n :=
  (congrArg (State.peekAt · p n) h :)

/-- A further field that stores scale factors. -/
theorem StoresSide.storesSf (h : StoresSide s t ch n f g) {f' : Nat → BitVec 6} (h' : StoresSf t u ch m f') :
    StoresSide s u ch (n + m) (fun i => (f' i).toNat) g := by
  obtain ⟨hpos, hdata, hother, hframe, hsf⟩ := h'
  have hint : (u.chan ch).int = (t.chan ch).int := (congrArg Channel.int hframe :)
  exact {
    bitPos := by rw [hpos, h.bitPos, Nat.add_assoc]
    datapath := h.datapath.trans hdata
    channel := h.channel.trans hother
    frame := (congrArg (·.withSide (s.chan ch)) hframe).trans h.frame
    sf := fun i hi => congrArg BitVec.toNat (hsf i hi)
    int := fun j hj => by rw [hint, h.int j hj] }

/-- A further field that stores the intensity. -/
theorem StoresSide.storesInt (h : StoresSide s t ch n f g) {g' : Nat → BitVec 4} (h' : StoresInt t u ch m g') :
    StoresSide s u ch (n + m) f fun j => (g' j).toNat := by
  obtain ⟨hpos, hdata, hother, hframe, hint⟩ := h'
  have hsf : (u.chan ch).sf = (t.chan ch).sf := (congrArg Channel.sf hframe :)
  exact {
    bitPos := by rw [hpos, h.bitPos, Nat.add_assoc]
    datapath := h.datapath.trans hdata
    channel := h.channel.trans hother
    frame := (congrArg (·.withSide (s.chan ch)) hframe).trans h.frame
    sf := fun i hi => by rw [hsf, h.sf i hi]
    int := fun j hj => congrArg BitVec.toNat (hint j hj) }

/-- The derivation of RES and BASE leaves the scale factors and the intensity. -/
theorem StoresSide.derive (h : StoresSide s t ch n f g) (hch : ch < 16) :
    StoresSide s (derive ch t) ch n f g := by
  have hchan : (Machine.derive ch t).chan ch = _ := State.chan_modChan_self t _ hch
  exact {
    bitPos := h.bitPos
    datapath := h.datapath
    channel := fun c hc => (State.chan_modChan_ne t _ hc).trans (h.channel c hc)
    frame := by rw [hchan]; exact h.frame
    sf := fun i hi => by rw [hchan]; exact h.sf i hi
    int := fun j hj => by rw [hchan]; exact h.int j hj }

/-- Two descriptions of the same stores. -/
theorem StoresSide.congr (h : StoresSide s t ch n f g) {n' : Nat} {f' g' : Nat → Nat} (hn : n = n')
    (hf : ∀ i, i < 128 → f i = f' i) (hg : ∀ j, j < 8 → g j = g' j) : StoresSide s t ch n' f' g' :=
  { h with
    bitPos := hn ▸ h.bitPos
    sf := fun i hi => (h.sf i hi).trans (hf i hi)
    int := fun j hj => (h.int j hj).trans (hg j hj) }

/-! ### The stores of each field -/

/-- The bits after the mode in modes 0, 6 and 7 (R116, R117). -/
def State.rawBits (s : State) (ch : Nat) : Nat := if s.peek 3 = 0 then 0 else 6 * (s.chan ch).count

/-- The scale factors that modes 0, 6 and 7 give (R116, R117). -/
def State.rawScaleFactor (s : State) (ch i : Nat) : Nat :=
  if s.peek 3 = 0 then 0
  else if i < (s.chan ch).count then s.peekAt (s.bitPos + 3 + 6 * i) 6
  else (entry (s.chan ch).sf i).toNat

theorem scaleFactors_stores (hch : ch < 16) (hmode : s.peek 3 = 0 ∨ 6 ≤ s.peek 3) :
    StoresSide s (scaleFactors ch s) ch (3 + s.rawBits ch) (s.rawScaleFactor ch)
      fun j => (entry (s.chan ch).int j).toNat := by
  have h3 : StoresSide s (opSfmode s) ch 3 _ _ := .advance s ch 3
  unfold scaleFactors State.rawBits State.rawScaleFactor
  by_cases h0 : s.peek 3 = 0
  · simp only [if_pos h0]
    exact h3.storesSf (opSfZero_stores _ hch)
  · simp only [if_neg h0, if_pos (hmode.resolve_left h0)]
    refine (h3.storesSf (opSfRaw_stores _ _ hch)).congr (by rw [fieldList_length]; rfl) (fun i _ => ?_)
      fun _ _ => rfl
    rw [fieldList_length]
    change BitVec.toNat (if i < (s.chan ch).count then _ else _) = _
    split
    case isTrue hlt => exact toNat_getD_fieldList (opSfmode s) (by decide) hlt
    case isFalse => rfl

/-- The extension field of a type-2 channel (R120), after the side information before it. -/
theorem StoresSide.intensityField (h : StoresSide s t ch n f g) (hch : ch < 16) :
    StoresSide s (intensityField ch t) ch (n + if s.peekAt (s.bitPos + n) 4 < 15 then 32 else 0) f
      fun j => if s.peekAt (s.bitPos + n) 4 < 15 then s.peekAt (s.bitPos + n + 4 * j) 4 else 15 := by
  have hpeek : t.peek 4 = s.peekAt (s.bitPos + n) 4 := by
    rw [State.peek, h.datapath.peekAt, h.bitPos]
  rw [Machine.intensityField, hpeek]
  split
  · refine (h.storesInt (opIntensitySet_stores t _ hch)).congr (by rw [fieldList_length]) (fun _ _ => rfl)
      fun j hj => ?_
    rw [fieldList_length, if_pos hj, toNat_getD_fieldList t (by decide) hj, h.datapath.peekAt, h.bitPos]
  · exact h.storesInt (opIntensityAll15_stores t hch)

/-- The extension field of a channel of type 0 or 1 (R121), after the side information before it. -/
theorem StoresSide.opHfrScale (h : StoresSide s t ch n f g) (hch : ch < 16) :
    let c := s.r06.toNat + s.r07.toNat
    StoresSide s (opHfrScale ch (fieldList t.reader 6 t.r09.toNat) t) ch (n + 6 * s.r09.toNat)
      (fun i => if c ≤ i ∧ i < c + s.r09.toNat then s.peekAt (s.bitPos + n + 6 * (i - c)) 6 else f i) g := by
  have hr06 : t.r06 = s.r06 := (congrArg State.r06 h.datapath :)
  have hr07 : t.r07 = s.r07 := (congrArg State.r07 h.datapath :)
  have hr09 : t.r09 = s.r09 := (congrArg State.r09 h.datapath :)
  refine (h.storesSf (opHfrScale_stores t _ hch)).congr (by rw [fieldList_length, hr09]) (fun i hi => ?_)
    fun _ _ => rfl
  rw [fieldList_length, hr06, hr07, hr09]
  split
  · rw [toNat_getD_fieldList t (by decide) (by omega), h.datapath.peekAt, h.bitPos]
  · exact h.sf i hi

/-- The extension field of a channel (R120, R121), after the side information before it. -/
theorem StoresSide.extension (h : StoresSide s t ch n f g) (hch : ch < 16) :
    let type := (s.chan ch).type
    let c := s.r06.toNat + s.r07.toNat
    let ext := s.bitPos + n
    StoresSide s (extension ch t) ch
      (n + if type = .secondary then (if s.peekAt ext 4 < 15 then 32 else 0) else 6 * s.r09.toNat)
      (fun i => if type ≠ .secondary ∧ c ≤ i ∧ i < c + s.r09.toNat then s.peekAt (ext + 6 * (i - c)) 6 else f i)
      fun j => if type ≠ .secondary then g j
        else if s.peekAt ext 4 < 15 then s.peekAt (ext + 4 * j) 4 else 15 := by
  have htype : (t.chan ch).type = (s.chan ch).type := (congrArg Channel.type h.frame :)
  rw [Machine.extension, htype]
  by_cases hsec : (s.chan ch).type = .secondary
  · simpa [hsec] using h.intensityField hch
  · simpa [hsec] using h.opHfrScale hch

end Side

/-! ### STAGE1 without delta codes -/

theorem scaleFactors_phase (ch : Nat) {s : State} (hmode : s.peek 3 = 0 ∨ 6 ≤ s.peek 3) :
    (scaleFactors ch s).phase = s.phase := by
  unfold scaleFactors
  by_cases h0 : s.peek 3 = 0
  · simp only [if_pos h0]
    rfl
  · simp only [if_neg h0, if_pos (hmode.resolve_left h0)]
    rfl

theorem extension_phase (ch : Nat) (s : State) : (extension ch s).phase = s.phase := by
  unfold extension intensityField
  split_ifs <;> rfl

/-- Outside FAULTED no fault can end STAGE1 in modes 0, 6 and 7. -/
theorem stage1_of_mode (ch : Nat) {s : State} (hp : s.phase ≠ .faulted) (hmode : s.peek 3 = 0 ∨ 6 ≤ s.peek 3) :
    stage1 ch s = derive ch (extension ch (scaleFactors ch s)) := by
  have hscale : (scaleFactors ch s).phase ≠ .faulted := by rwa [scaleFactors_phase ch hmode]
  have hext : (extension ch (scaleFactors ch s)).phase ≠ .faulted := by rwa [extension_phase]
  rw [stage1, State.andThen_of_not_faulted _ hscale, State.andThen_of_not_faulted _ hext]

/-- Settles O38: the scale factors, then the extension field of the channel's type, and the derivation keeps both. -/
theorem stageOneWithoutDeltas : Obligations.StageOneWithoutDeltas := by
  intro s ch hp _ _ hmode k c raw ext
  have hside := ((scaleFactors_stores ch.isLt hmode).extension ch.isLt).derive ch.isLt
  have hext : s.bitPos + (3 + s.rawBits ch.val) = ext := (Nat.add_assoc ..).symm
  rw [← stage1_of_mode ch.val hp hmode] at hside
  simp only [hext] at hside
  refine ⟨stage1 ch.val s, rfl, hside.datapath, hside.channel, hside.frame, ?_, hside.sf, hside.int⟩
  rw [hside.bitPos, ← Nat.add_assoc, hext]

end Sys2Proof.Machine
end

section
/-! SUPPORT. HFR where the high band is wider than the coded band (spec/43_reconstruct.md R135): the loops come to the
target 2c with no source left, and HfrUnderflow ends them. -/

namespace Sys2Proof.Machine

section Underflow

variable {s : State} {ch : Nat} {c : Nat}

/-- SPEC of one channel replaced. -/
def State.setSpec (s : State) (ch : Nat) (v : Vector F32 128) : State := s.modChan ch fun k => { k with spec := v }

theorem State.chan_setSpec_self (hch : ch < 16) (v : Vector F32 128) :
    (s.setSpec ch v).chan ch = { s.chan ch with spec := v } :=
  State.chan_modChan_self s _ hch

theorem State.chan_setSpec_ne {x : Nat} (hx : x ≠ ch) (v : Vector F32 128) : (s.setSpec ch v).chan x = s.chan x :=
  State.chan_modChan_ne s _ hx

theorem State.setSpec_self (hch : ch < 16) : s.setSpec ch (s.chan ch).spec = s := by
  refine State.ext_chan (State.modChan_frame s ch _) fun x _ => ?_
  by_cases hx : x = ch
  · rw [hx, State.chan_setSpec_self hch]
  · exact State.chan_setSpec_ne hx _

/-- A store into SPEC after SPEC was replaced. -/
theorem State.setSpec_store (hch : ch < 16) (v : Vector F32 128) (i : Nat) (x : F32) :
    ((s.setSpec ch v).modChan ch fun k => { k with spec := k.spec.setIfInBounds i x })
      = s.setSpec ch (v.setIfInBounds i x) :=
  State.modChan_modChan s _ _ hch

/-- The loop variables of R135 after `i` targets count from 0, SPEC being `v`: up to `2 * c` the next target is `i` and
its source the mirror image; past `2 * c` the fault has ended the loops there. -/
def hfrReached (s : State) (ch c i : Nat) (v : Vector F32 128) : Nat × Int × State :=
  if i ≤ 2 * c then (i, (2 * c : Int) - 1 - i, s.setSpec ch v)
  else (2 * c, -1, (s.setSpec ch v).raise (.hfrUnderflow ch (2 * c)))

theorem hfrReached_live {i : Nat} (h : i ≤ 2 * c) (v : Vector F32 128) :
    hfrReached s ch c i v = (i, (2 * c : Int) - 1 - i, s.setSpec ch v) := if_pos h

theorem hfrReached_faulted {i : Nat} (h : 2 * c < i) (v : Vector F32 128) :
    hfrReached s ch c i v = (2 * c, -1, (s.setSpec ch v).raise (.hfrUnderflow ch (2 * c))) :=
  if_neg (Nat.not_le.mpr h)

theorem hfrReached_phase (hp : s.phase ≠ .faulted) (i : Nat) (v : Vector F32 128) :
    (hfrReached s ch c i v).2.2.phase = .faulted ↔ 2 * c < i := by
  by_cases h : 2 * c < i
  · rw [hfrReached_faulted h]
    exact iff_of_true rfl h
  · rw [hfrReached_live (Nat.not_lt.mp h)]
    exact iff_of_false hp h

/-- A target in the coded band's mirror image: some coefficient is stored there. -/
theorem hfrGroup_below (hch : ch < 16) (hwide : 2 * c < s.r05.toNat) (scale : BitVec 6) (j : Nat) {i : Nat}
    (hi : i < 2 * c) (v : Vector F32 128) :
    ∃ w, hfrGroup ch scale (j + 1) (hfrReached s ch c i v) = hfrGroup ch scale j (hfrReached s ch c (i + 1) w) := by
  have hr05 : (s.setSpec ch v).r05 = s.r05 := rfl
  have hnext : (2 * c : Int) - 1 - i - 1 = 2 * c - 1 - (i + 1 : Nat) := by omega
  rw [hfrReached_live (Nat.le_of_lt hi), hfrGroup, hr05, if_neg (by omega), if_neg (by omega), hnext]
  dsimp only
  rw [State.setSpec_store hch, ← hfrReached_live hi]
  exact ⟨_, rfl⟩

/-- The target 2c: its source would be -1. -/
theorem hfrGroup_at_end (hwide : 2 * c < s.r05.toNat) (scale : BitVec 6) (j : Nat) (v : Vector F32 128) :
    hfrGroup ch scale (j + 1) (hfrReached s ch c (2 * c) v) = hfrReached s ch c (2 * c + (j + 1)) v := by
  have hr05 : (s.setSpec ch v).r05 = s.r05 := rfl
  have hsource : (2 * c : Int) - 1 - (2 * c : Nat) = -1 := by omega
  rw [hfrReached_live (Nat.le_refl _), hfrReached_faulted (by omega), hfrGroup, hr05, if_neg (by omega), hsource,
    if_pos (by decide)]

/-- A group from a target up to 2c. -/
theorem hfrGroup_hfrReached (hch : ch < 16) (hwide : 2 * c < s.r05.toNat) (scale : BitVec 6) (j : Nat) {i : Nat}
    (hi : i ≤ 2 * c) (v : Vector F32 128) :
    ∃ w, hfrGroup ch scale j (hfrReached s ch c i v) = hfrReached s ch c (i + j) w := by
  induction j generalizing i v with
  | zero => exact ⟨v, rfl⟩
  | succ j ih =>
    obtain hlt | rfl := Nat.lt_or_eq_of_le hi
    · obtain ⟨w, hw⟩ := hfrGroup_below hch hwide scale j hlt v
      rw [hw, show i + (j + 1) = i + 1 + j by omega]
      exact ih hlt w
    · exact ⟨v, hfrGroup_at_end hwide scale j v⟩

/-- The loop over the groups. -/
theorem foldl_hfrReached (hch : ch < 16) (hp : s.phase ≠ .faulted) (hwide : 2 * c < s.r05.toNat)
    (scale : Nat × Int × State → Nat → BitVec 6) (b n : Nat) :
    ∃ w, (List.range n).foldl (fun x g => if x.2.2.phase = .faulted then x else hfrGroup ch (scale x g) b x)
        (hfrReached s ch c c (s.chan ch).spec) = hfrReached s ch c (c + n * b) w := by
  induction n with
  | zero => exact ⟨_, by rw [Nat.zero_mul]; rfl⟩
  | succ n ih =>
    obtain ⟨w, hw⟩ := ih
    rw [List.range_succ, List.foldl_append, hw, List.foldl_cons, List.foldl_nil, Nat.succ_mul, ← Nat.add_assoc]
    split
    case isTrue hf =>
      have hpast := (hfrReached_phase hp _ w).mp hf
      exact ⟨w, by rw [hfrReached_faulted hpast, hfrReached_faulted (by omega)]⟩
    case isFalse hf =>
      exact hfrGroup_hfrReached hch hwide _ b (Nat.not_lt.mp (mt (hfrReached_phase hp _ w).mpr hf)) w

/-- The loops end in the fault at 2c (R135). -/
theorem hfrLoop_underflow (hch : ch < 16) (hp : s.phase ≠ .faulted)
    (hwide : 2 * (s.r06.toNat + s.r07.toNat) < s.r05.toNat)
    (hgroups : s.r05.toNat - (s.r06.toNat + s.r07.toNat) ≤ s.r09.toNat * s.r08.toNat) :
    ∃ w, hfrLoop ch s
      = (s.setSpec ch w).raise (.hfrUnderflow ch (2 * (s.r06.toNat + s.r07.toNat))) := by
  generalize hc : s.r06.toNat + s.r07.toNat = c at hwide hgroups ⊢
  obtain ⟨w, hw⟩ := foldl_hfrReached hch hp hwide
    (fun x g => entry (x.2.2.chan ch).sf (c + g)) s.r08.toNat s.r09.toNat
  have hstart : hfrReached s ch c c (s.chan ch).spec = (c, (c : Int) - 1, s) := by
    rw [hfrReached_live (by omega), State.setSpec_self hch]
    congr 2
    omega
  rw [hstart, hfrReached_faulted (by omega)] at hw
  refine ⟨w, ?_⟩
  rw [hfrLoop, hc]
  exact congrArg (fun x : Nat × Int × State => x.2.2) hw

end Underflow

/-- Settles O41: the loops end in the fault at 2c, and until then only SPEC of the channel was stored. -/
theorem hfrUnderflowFaults : Obligations.HfrUnderflowFaults := by
  intro s ch hp c htype h08 h128 hwide hgroups
  have h08' : s.r08.toNat ≠ 0 := fun h => h08 (BitVec.eq_of_toNat_eq h)
  obtain ⟨w, hloop⟩ := hfrLoop_underflow ch.isLt hp hwide hgroups
  have hrun : hfr ch.val s = (s.setSpec ch.val w).raise (.hfrUnderflow ch.val (2 * c)) := by
    rw [hfr, if_pos ⟨htype, h08'⟩, hloop, State.andThen_of_faulted _ rfl]
  have hinfo : ch.val <<< 8 ||| 2 * c = 256 * ch.val + 2 * c := shiftLeft_or_index ch ⟨2 * c, by omega⟩
  refine ⟨_, congrArg Host.Outcome.next hrun, rfl, rfl, congrArg (BitVec.ofNat 32) hinfo, rfl,
    fun _ hx => State.chan_setSpec_ne hx w, ?_⟩
  exact congrArg (fun k : Channel => { k with spec := (s.chan ch.val).spec }) (State.chan_setSpec_self ch.isLt w)

end Sys2Proof.Machine
end

section
/-! SUPPORT. Stage 5 (spec/44_synthesis.md R141-R147): each level of the transform writes every entry of its destination,
a pair of entries for each pair of its source; the windowed output and overlap entry by entry; and what becomes of
zeros. -/

namespace Sys2Proof.Machine

/-! ### A level writes every entry once -/

/-- What one pass of a loop sets up and no pass destroys holds after the loop. -/
theorem foldl_establishes {α β : Type} {P : β → Prop} {l : List α} {f : β → α → β} {a : α} (ha : a ∈ l)
    (hset : ∀ s, P (f s a)) (hkeep : ∀ b ∈ l, ∀ s, P s → P (f s b)) (s : β) : P (l.foldl f s) := by
  obtain ⟨l₁, l₂, rfl⟩ := List.append_of_mem ha
  rw [List.foldl_append, List.foldl_cons]
  exact foldl_keeps (fun b hb => hkeep b (List.mem_append_right _ (List.mem_cons_of_mem _ hb))) _ (hset _)

theorem mem_loop2 {c1 c2 : Nat} {x : Nat × Nat} : x ∈ loop2 c1 c2 ↔ x.1 < c1 ∧ x.2 < c2 := by
  obtain ⟨j, k⟩ := x
  simp only [loop2, List.mem_flatMap, List.mem_map, List.mem_range, Prod.mk.injEq]
  exact ⟨fun ⟨_, hj, _, hk, ej, ek⟩ => ⟨ej ▸ hj, ek ▸ hk⟩, fun ⟨hj, hk⟩ => ⟨j, hj, k, hk, rfl, rfl⟩⟩

/-- What the levels of both passes do: in each of `c1` groups of 2 x `c2` entries, pass `k` writes `low` at `k` and
`high` at the place `up k` of the group's upper half. -/
def pairLevel (c1 c2 : Nat) (up : Nat → Nat) (low high : Nat → Nat → F32) (dst : Vector F32 128) : Vector F32 128 :=
  (loop2 c1 c2).foldl
    (fun dst x =>
      (dst.setIfInBounds (x.1 * (2 * c2) + x.2) (low x.1 x.2)).setIfInBounds (x.1 * (2 * c2) + up x.2) (high x.1 x.2))
    dst

/-- The passes of a level use the entries of the upper half of a group once each. -/
structure FillsUpperHalf (c2 : Nat) (up : Nat → Nat) : Prop where
  range : ∀ k, k < c2 → c2 ≤ up k ∧ up k < 2 * c2
  inj : ∀ k k', k < c2 → k' < c2 → up k = up k' → k = k'
  surj : ∀ r, c2 ≤ r → r < 2 * c2 → ∃ k, k < c2 ∧ up k = r

theorem fillsUpperHalf_add (c2 : Nat) : FillsUpperHalf c2 (c2 + ·) where
  range k hk := by omega
  inj k k' _ _ h := by omega
  surj r hr hr' := ⟨r - c2, by omega, by omega⟩

theorem fillsUpperHalf_sub (c2 : Nat) : FillsUpperHalf c2 (2 * c2 - 1 - ·) where
  range k hk := by omega
  inj k k' _ _ h := by omega
  surj r hr hr' := ⟨2 * c2 - 1 - r, by omega, by omega⟩

/-- The group and the place within it are the quotient and the remainder of the index. -/
theorem group_place_inj {m j j' r r' : Nat} (hr : r < m) (hr' : r' < m) (h : j * m + r = j' * m + r') :
    j = j' ∧ r = r' := by
  have hm : 0 < m := by omega
  have hsplit {j r : Nat} (hr : r < m) : (j * m + r) / m = j ∧ (j * m + r) % m = r :=
    (Nat.div_mod_unique hm).mpr ⟨by rw [Nat.mul_comm, Nat.add_comm], hr⟩
  obtain ⟨hquot, hrem⟩ := h ▸ hsplit hr
  obtain ⟨hquot', hrem'⟩ := hsplit hr'
  exact ⟨hquot.symm.trans hquot', hrem.symm.trans hrem'⟩

/-- An index of a group is below the end of the groups. -/
theorem group_place_lt {c m n j r : Nat} (hn : c * m = n) (hj : j < c) (hr : r < m) : j * m + r < n :=
  calc j * m + r < j * m + m := Nat.add_lt_add_left hr _
    _ = (j + 1) * m := (Nat.succ_mul j m).symm
    _ ≤ c * m := Nat.mul_le_mul_right m hj
    _ = n := hn

section PairLevel

variable {c1 c2 : Nat} {up : Nat → Nat} {low high : Nat → Nat → F32}

/-- The lower and the upper halves of the groups have no place in common. -/
theorem FillsUpperHalf.place_ne (hup : FillsUpperHalf c2 up) {j j' k k' : Nat} (hk : k < c2) (hk' : k' < c2) :
    j * (2 * c2) + k ≠ j' * (2 * c2) + up k' := by
  obtain ⟨hge, hlt⟩ := hup.range k' hk'
  intro h
  have := (group_place_inj (by omega) hlt h).2
  omega

theorem entry_pairLevel_low (hsize : c1 * (2 * c2) = 128) (hup : FillsUpperHalf c2 up) (dst : Vector F32 128)
    {j k : Nat} (hj : j < c1) (hk : k < c2) :
    entry (pairLevel c1 c2 up low high dst) (j * (2 * c2) + k) = low j k := by
  refine foldl_establishes (P := fun v => entry v (j * (2 * c2) + k) = low j k) (a := (j, k))
    (mem_loop2.mpr ⟨hj, hk⟩) (fun v => ?_) (fun x hx v hv => ?_) dst
  · rw [entry_setIfInBounds_ne _ _ (hup.place_ne hk hk).symm,
      entry_setIfInBounds_self _ _ (group_place_lt hsize hj (by omega))]
  · have hxk := (mem_loop2.mp hx).2
    rw [entry_setIfInBounds_ne _ _ (hup.place_ne hk hxk).symm, entry_setIfInBounds]
    split
    case isTrue h =>
      obtain ⟨rfl, rfl⟩ := group_place_inj (by omega) (by omega) h.1
      rfl
    case isFalse => exact hv

theorem entry_pairLevel_high (hsize : c1 * (2 * c2) = 128) (hup : FillsUpperHalf c2 up) (dst : Vector F32 128)
    {j k : Nat} (hj : j < c1) (hk : k < c2) :
    entry (pairLevel c1 c2 up low high dst) (j * (2 * c2) + up k) = high j k := by
  have hlt := (hup.range k hk).2
  refine foldl_establishes (P := fun v => entry v (j * (2 * c2) + up k) = high j k) (a := (j, k))
    (mem_loop2.mpr ⟨hj, hk⟩) (fun v => ?_) (fun x hx v hv => ?_) dst
  · exact entry_setIfInBounds_self _ _ (group_place_lt hsize hj hlt)
  · have hxk := (mem_loop2.mp hx).2
    rw [entry_setIfInBounds]
    split
    case isTrue h =>
      obtain ⟨rfl, hplace⟩ := group_place_inj (hup.range x.2 hxk).2 hlt h.1
      rw [hup.inj _ _ hxk hk hplace]
    case isFalse => rw [entry_setIfInBounds_ne _ _ (hup.place_ne hxk hk), hv]

/-- Every entry is one of those written. -/
theorem entry_pairLevel_cases (hsize : c1 * (2 * c2) = 128) (hup : FillsUpperHalf c2 up) {i : Nat} (hi : i < 128) :
    ∃ j k, j < c1 ∧ k < c2 ∧
      ((∀ dst, entry (pairLevel c1 c2 up low high dst) i = low j k)
        ∨ ∀ dst, entry (pairLevel c1 c2 up low high dst) i = high j k) := by
  have hpos : 0 < 2 * c2 := Nat.pos_of_ne_zero fun h => by simp [h] at hsize
  have hj : i / (2 * c2) < c1 := Nat.div_lt_of_lt_mul (by rwa [Nat.mul_comm, hsize])
  have hr : i % (2 * c2) < 2 * c2 := Nat.mod_lt i hpos
  have hsplit : i / (2 * c2) * (2 * c2) + i % (2 * c2) = i := Nat.div_add_mod' i _
  rcases Nat.lt_or_ge (i % (2 * c2)) c2 with hlow | hhigh
  · refine ⟨_, _, hj, hlow, .inl fun dst => ?_⟩
    have hentry := entry_pairLevel_low (low := low) (high := high) hsize hup dst hj hlow
    rwa [hsplit] at hentry
  · obtain ⟨k, hk, hplace⟩ := hup.surj _ hhigh hr
    refine ⟨_, k, hj, hk, .inr fun dst => ?_⟩
    have hentry := entry_pairLevel_high (low := low) (high := high) hsize hup dst hj hk
    rwa [hplace, hsplit] at hentry

theorem pairLevel_eq (hsize : c1 * (2 * c2) = 128) (hup : FillsUpperHalf c2 up) (dst dst' : Vector F32 128) :
    pairLevel c1 c2 up low high dst = pairLevel c1 c2 up low high dst' := by
  refine entry_ext fun i hi => ?_
  obtain ⟨j, k, _, _, h | h⟩ := entry_pairLevel_cases (low := low) (high := high) hsize hup hi <;> rw [h, h]

/-- What holds of every value written holds of every entry. -/
theorem forall_entry_pairLevel (hsize : c1 * (2 * c2) = 128) (hup : FillsUpperHalf c2 up) {P : F32 → Prop}
    (hP : ∀ j k, j < c1 → k < c2 → P (low j k) ∧ P (high j k)) (dst : Vector F32 128) {i : Nat} (hi : i < 128) :
    P (entry (pairLevel c1 c2 up low high dst) i) := by
  obtain ⟨j, k, hj, hk, h | h⟩ := entry_pairLevel_cases (low := low) (high := high) hsize hup hi <;> rw [h]
  · exact (hP j k hj hk).1
  · exact (hP j k hj hk).2

end PairLevel

/-! ### The levels of BUTTERFLY and ROTATION -/

theorem butterfly_size : ∀ lv, lv < 7 → 2 ^ lv * (2 * (64 >>> lv)) = 128 := by decide

theorem rotation_size : ∀ lv, lv < 7 → (64 >>> lv) * (2 * 2 ^ lv) = 128 := by decide

/-- The passes of a level of ROTATION take the 64 entries of its ROMs in turn. -/
theorem rotation_passes : ∀ lv, lv < 7 → (64 >>> lv) * 2 ^ lv = 64 := by decide

theorem butterflyLevel_eq_pairLevel (lv : Nat) (src dst : Vector F32 128) :
    butterflyLevel lv src dst
      = pairLevel (2 ^ lv) (64 >>> lv) (64 >>> lv + ·)
          (fun j k => fadd (entry src (2 * (j * (64 >>> lv) + k) + 1)) (entry src (2 * (j * (64 >>> lv) + k))))
          (fun j k => fsub (entry src (2 * (j * (64 >>> lv) + k))) (entry src (2 * (j * (64 >>> lv) + k) + 1))) dst := by
  simp only [butterflyLevel, pairLevel, Nat.add_assoc]

theorem rotationLevel_eq_pairLevel (p : Config.Params) (lv : Nat) (src dst : Vector F32 128) :
    rotationLevel p lv src dst
      = pairLevel (64 >>> lv) (2 ^ lv) (2 * 2 ^ lv - 1 - ·)
          (fun j k =>
            fsub (fmul (entry src (j * (2 * 2 ^ lv) + k)) (p.synthSin lv (j * 2 ^ lv + k)))
              (fmul (entry src (j * (2 * 2 ^ lv) + 2 ^ lv + k)) (p.synthCos lv (j * 2 ^ lv + k))))
          (fun j k =>
            fadd (fmul (entry src (j * (2 * 2 ^ lv) + k)) (p.synthCos lv (j * 2 ^ lv + k)))
              (fmul (entry src (j * (2 * 2 ^ lv) + 2 ^ lv + k)) (p.synthSin lv (j * 2 ^ lv + k)))) dst := by
  refine List.foldl_ext _ _ _ fun v x hx => ?_
  have hk := (mem_loop2.mp hx).2
  have hplace : x.1 * (2 * 2 ^ lv) + 2 * 2 ^ lv - 1 - x.2 = x.1 * (2 * 2 ^ lv) + (2 * 2 ^ lv - 1 - x.2) := by omega
  simp only [hplace]

/-- Settles O43: the sums fill the lower halves of the groups, the differences the upper halves. -/
theorem butterflyLevelPairs : Obligations.ButterflyLevelPairs := by
  intro lv src dst j k hlv hj hk c2 n
  rw [butterflyLevel_eq_pairLevel, Nat.add_assoc]
  have hsize := butterfly_size lv hlv
  have hup := fillsUpperHalf_add c2
  exact ⟨entry_pairLevel_low hsize hup dst hj hk, entry_pairLevel_high hsize hup dst hj hk⟩

/-- Settles O44: the first values fill the lower halves of the groups, the second the upper halves from their ends. -/
theorem rotationLevelPairs : Obligations.RotationLevelPairs := by
  intro p lv src dst j k hlv hj hk c2 a b sn cs
  have hk' : k < c2 := hk
  have hplace : j * (2 * c2) + 2 * c2 - 1 - k = j * (2 * c2) + (2 * c2 - 1 - k) := by omega
  rw [rotationLevel_eq_pairLevel, hplace]
  have hsize := rotation_size lv hlv
  have hup := fillsUpperHalf_sub c2
  exact ⟨entry_pairLevel_low hsize hup dst hj hk, entry_pairLevel_high hsize hup dst hj hk⟩

theorem butterflyLevel_eq {lv : Nat} (hlv : lv < 7) (src dst dst' : Vector F32 128) :
    butterflyLevel lv src dst = butterflyLevel lv src dst' := by
  simp only [butterflyLevel_eq_pairLevel]
  exact pairLevel_eq (butterfly_size lv hlv) (fillsUpperHalf_add _) dst dst'

theorem rotationLevel_eq (p : Config.Params) {lv : Nat} (hlv : lv < 7) (src dst dst' : Vector F32 128) :
    rotationLevel p lv src dst = rotationLevel p lv src dst' := by
  simp only [rotationLevel_eq_pairLevel]
  exact pairLevel_eq (rotation_size lv hlv) (fillsUpperHalf_sub _) dst dst'

/-! ### The two passes -/

/-- Of levels that ignore their destination the output is each applied to what the one before it wrote. -/
theorem foldl_swap_fst {level : Nat → Vector F32 128 → Vector F32 128 → Vector F32 128} {l : List Nat}
    (hlevel : ∀ lv ∈ l, ∀ src dst dst', level lv src dst = level lv src dst') (any : Vector F32 128)
    (b : Vector F32 128 × Vector F32 128) :
    (l.foldl (fun b lv => (level lv b.1 b.2, b.1)) b).1 = l.foldl (fun v lv => level lv v any) b.1 := by
  induction l generalizing b with
  | nil => rfl
  | cons lv l ih =>
    rw [List.foldl_cons, List.foldl_cons, ih fun x hx => hlevel x (List.mem_cons_of_mem lv hx),
      hlevel lv List.mem_cons_self b.1 b.2 any]

/-- Settles O45: no level of either pass depends on what its destination held. -/
theorem transformIgnoresScratch : Obligations.TransformIgnoresScratch := by
  intro p spec scratch any
  have hrange : [0, 1, 2, 3, 4, 5, 6] = List.range 7 := rfl
  rw [transform, passLevels, passLevels, hrange,
    foldl_swap_fst (fun lv hlv => rotationLevel_eq p (List.mem_range.mp hlv)) any,
    foldl_swap_fst (fun lv hlv => butterflyLevel_eq (List.mem_range.mp hlv)) any]

/-! ### The windowed output and the overlap -/

theorem entry_outputWave (p : Config.Params) (wav2 wav3 old : Vector F32 128) {i : Nat} (hi : i < 64) :
    entry (outputWave p wav2 wav3 old) i = fadd (fmul (entry wav2 (64 + i)) (p.synthWindow i)) (entry wav3 i)
      ∧ entry (outputWave p wav2 wav3 old) (64 + i)
        = fsub (fmul (p.synthWindow (64 + i)) (entry wav2 (127 - i))) (entry wav3 (64 + i)) := by
  unfold outputWave
  constructor
  · rw [entry_fillRange, if_neg (by omega), entry_fillRange, if_pos (by omega)]
  · rw [entry_fillRange, if_pos (by omega), show 191 - (64 + i) = 127 - i by omega]

theorem entry_overlap (p : Config.Params) (wav2 old : Vector F32 128) {i : Nat} (hi : i < 64) :
    entry (overlap p wav2 old) i = fmul (entry wav2 (63 - i)) (p.synthWindow (127 - i))
      ∧ entry (overlap p wav2 old) (64 + i) = fmul (p.synthWindow (63 - i)) (entry wav2 i) := by
  unfold overlap
  constructor
  · rw [entry_fillRange, if_neg (by omega), entry_fillRange, if_pos (by omega)]
  · rw [entry_fillRange, if_pos (by omega), show 127 - (64 + i) = 63 - i by omega, Nat.add_sub_cancel_left]

/-- The samples of the subframe that SYNTH stores. -/
theorem wave_synthChannel_self (p : Config.Params) {sf : Nat} (hsf : sf < 8) (k : Channel) :
    (synthChannel p sf k).wave[sf]?.getD (Vector.replicate 128 0)
      = outputWave p (transform p k.spec k.wav1).1 k.wav3 (k.wave[sf]?.getD (Vector.replicate 128 0)) := by
  simp only [synthChannel, Vector.getElem?_setIfInBounds_self_of_lt hsf, Option.getD_some]

theorem wave_synthChannel_ne (p : Config.Params) {sf f : Nat} (hf : f ≠ sf) (k : Channel) :
    (synthChannel p sf k).wave[f]? = k.wave[f]? :=
  Vector.getElem?_setIfInBounds_ne hf.symm

/-- SYNTH stores SPEC, the work buffers and WAVE only. -/
theorem synthChannel_frame (p : Config.Params) (sf : Nat) (k : Channel) :
    { synthChannel p sf k with
      spec := k.spec, wav1 := k.wav1, wav2 := k.wav2, wav3 := k.wav3, wave := k.wave } = k := by
  obtain ⟨_, _, _, _, _, h⟩ := synthChannel_shape p sf k
  rw [h]

/-- Settles O46: SYNTH changes the one channel, and the output reads the old WAV3. -/
theorem synthOverlapAdd : Obligations.SynthOverlapAdd := by
  intro s ch sf k x w
  have hchan : (synth Config.params ch.val sf.val s).chan ch.val = synthChannel Config.params sf.val k :=
    State.chan_modChan_self s _ ch.isLt
  refine ⟨synth Config.params ch.val sf.val s, rfl, State.modChan_frame s _ _,
    fun c hc => State.chan_modChan_ne s _ hc, ?_⟩
  unfold State.wave
  rw [hchan, wave_synthChannel_self _ sf.isLt]
  refine ⟨synthChannel_frame _ _ k, rfl, rfl, fun f hf i => ?_, fun i hi => entry_outputWave Config.params x k.wav3 _ hi,
    fun i hi => entry_overlap Config.params x k.wav3 hi⟩
  rw [wave_synthChannel_ne _ hf]

/-! ### Zeros -/

/-- +0.0 or -0.0. -/
def IsZero (x : F32) : Prop := x = 0x00000000 ∨ x = 0x80000000

theorem isZero_fZero (neg : Bool) : IsZero (fZero neg) := by
  cases neg
  · exact .inl rfl
  · exact .inr rfl

theorem IsZero.fFinite {x : F32} (h : IsZero x) : fFinite x = true := by
  rcases h with rfl | rfl <;> rfl

theorem IsZero.fUnits {x : F32} (h : IsZero x) : fUnits x = 0 := by
  rcases h with rfl | rfl <;> rfl

theorem IsZero.fInt {x : F32} (h : IsZero x) : fInt x = 0 := (fInt_eq_zero_iff x).mpr h.fUnits

theorem fRound_zero (neg : Bool) (k : Nat) : fRound neg 0 k = fZero neg := by
  have hpattern : roundedPattern 0 k = 0 := by
    simp [roundedPattern, roundedDigits, lastPlace, nearestQuot]
  rw [fRound_eq, hpattern]
  cases neg <;> rfl

theorem IsZero.fadd {a b : F32} (ha : IsZero a) (hb : IsZero b) : IsZero (fadd a b) := by
  rw [fadd_of_not_fIsNaN (not_fIsNaN_of_fFinite ha.fFinite) (not_fIsNaN_of_fFinite hb.fFinite),
    fSum_eq_zero 0 ha.fFinite hb.fFinite (by rw [ha.fInt, hb.fInt]; rfl)]
  split
  · exact .inr rfl
  · exact .inl rfl

theorem IsZero.fsub {a b : F32} (ha : IsZero a) (hb : IsZero b) : IsZero (fsub a b) := by
  rw [fsub_eq_zero ha.fFinite hb.fFinite (by rw [ha.fInt, hb.fInt]; rfl)]
  split
  · exact .inr rfl
  · exact .inl rfl

/-- A zero times a finite value is a zero; the factors may stand in either order. -/
theorem isZero_fmul {a b : F32} (ha : fFinite a = true) (hb : fFinite b = true) (h : IsZero a ∨ IsZero b) :
    IsZero (fmul a b) := by
  have hunits : Machine.fUnits a * Machine.fUnits b = 0 :=
    Nat.mul_eq_zero.mpr (h.imp IsZero.fUnits IsZero.fUnits)
  rw [fmul_finite ha hb, hunits, fRound_zero]
  exact isZero_fZero _

theorem IsZero.fmul_left {a b : F32} (ha : IsZero a) (hb : Machine.fFinite b = true) : IsZero (fmul a b) :=
  isZero_fmul ha.fFinite hb (.inl ha)

theorem IsZero.fmul_right {a b : F32} (ha : Machine.fFinite a = true) (hb : IsZero b) : IsZero (fmul a b) :=
  isZero_fmul ha hb.fFinite (.inr hb)

/-- Every entry of an array is a zero. -/
def Silent (v : Vector F32 128) : Prop := ∀ i, i < 128 → IsZero (entry v i)

/-- Reading outside an array gives +0.0 too. -/
theorem Silent.entry {v : Vector F32 128} (h : Silent v) (i : Nat) : IsZero (entry v i) := by
  rcases Nat.lt_or_ge i 128 with hi | hi
  · exact h i hi
  · exact .inl (entry_outside v hi)

/-- The ROMs of ROTATION are finite. -/
def FiniteRotation (p : Config.Params) : Prop :=
  ∀ lv t, lv < 7 → t < 64 → fFinite (p.synthSin lv t) = true ∧ fFinite (p.synthCos lv t) = true

theorem silent_butterflyLevel {lv : Nat} (hlv : lv < 7) {src : Vector F32 128} (h : Silent src)
    (dst : Vector F32 128) : Silent (butterflyLevel lv src dst) := by
  rw [butterflyLevel_eq_pairLevel]
  exact fun i hi => forall_entry_pairLevel (butterfly_size lv hlv) (fillsUpperHalf_add _)
    (fun j k _ _ => ⟨(h.entry _).fadd (h.entry _), (h.entry _).fsub (h.entry _)⟩) dst hi

theorem silent_rotationLevel {p : Config.Params} (hp : FiniteRotation p) {lv : Nat} (hlv : lv < 7)
    {src : Vector F32 128} (h : Silent src) (dst : Vector F32 128) : Silent (rotationLevel p lv src dst) := by
  rw [rotationLevel_eq_pairLevel]
  refine fun i hi => forall_entry_pairLevel (rotation_size lv hlv) (fillsUpperHalf_sub _) (fun j k hj hk => ?_) dst hi
  obtain ⟨hsin, hcos⟩ := hp lv (j * 2 ^ lv + k) hlv (group_place_lt (rotation_passes lv hlv) hj hk)
  exact ⟨((h.entry _).fmul_left hsin).fsub ((h.entry _).fmul_left hcos),
    ((h.entry _).fmul_left hcos).fadd ((h.entry _).fmul_left hsin)⟩

theorem silent_passLevels {level : Nat → Vector F32 128 → Vector F32 128 → Vector F32 128}
    (hlevel : ∀ lv, lv < 7 → ∀ src, Silent src → ∀ dst, Silent (level lv src dst))
    {b : Vector F32 128 × Vector F32 128} (h : Silent b.1) : Silent (passLevels level b).1 :=
  foldl_keeps (P := fun b => Silent b.1)
    (fun lv hlv b hb => hlevel lv (List.mem_range.mp hlv) b.1 hb b.2) b h

theorem silent_transform {p : Config.Params} (hp : FiniteRotation p) {spec : Vector F32 128} (h : Silent spec)
    (wav1 : Vector F32 128) : Silent (transform p spec wav1).1 :=
  silent_passLevels (fun _ hlv _ hsrc => silent_rotationLevel hp hlv hsrc)
    (silent_passLevels (fun _ hlv _ hsrc => silent_butterflyLevel hlv hsrc) h)

/-- Both halves of an array are silent. -/
theorem silent_of_halves {v : Vector F32 128}
    (h : ∀ i, i < 64 → IsZero (entry v i) ∧ IsZero (entry v (64 + i))) : Silent v := by
  intro i hi
  rcases Nat.lt_or_ge i 64 with hlow | hhigh
  · exact (h i hlow).1
  · have := (h (i - 64) (by omega)).2
    rwa [Nat.add_sub_cancel' hhigh] at this

section Window

variable {p : Config.Params} (hwindow : ∀ i, i < 128 → fFinite (p.synthWindow i) = true) {wav2 : Vector F32 128}
  (h2 : Silent wav2)
include hwindow h2

theorem silent_outputWave {wav3 : Vector F32 128} (h3 : Silent wav3) (old : Vector F32 128) :
    Silent (outputWave p wav2 wav3 old) := by
  refine silent_of_halves fun i hi => ?_
  obtain ⟨hlow, hhigh⟩ := entry_outputWave p wav2 wav3 old hi
  rw [hlow, hhigh]
  exact ⟨((h2.entry _).fmul_left (hwindow i (by omega))).fadd (h3.entry _),
    ((h2.entry _).fmul_right (hwindow _ (by omega))).fsub (h3.entry _)⟩

theorem silent_overlap (old : Vector F32 128) : Silent (overlap p wav2 old) := by
  refine silent_of_halves fun i hi => ?_
  obtain ⟨hlow, hhigh⟩ := entry_overlap p wav2 old hi
  rw [hlow, hhigh]
  exact ⟨(h2.entry _).fmul_left (hwindow _ (by omega)), (h2.entry _).fmul_right (hwindow _ (by omega))⟩

end Window

/-- Settles O47: sums, differences and finite multiples of zeros are zeros, through all fourteen levels and the
window. -/
theorem silenceStaysSilent : Obligations.SilenceStaysSilent := by
  intro p k sf hsf hrotation hwindow hzero _ i hi
  have hspec : Silent k.spec := fun i hi => .inl (hzero i hi).1
  have hwav3 : Silent k.wav3 := fun i hi => .inl (hzero i hi).2
  have hwav2 := silent_transform hrotation hspec k.wav1
  rw [wave_synthChannel_self p hsf]
  exact ⟨silent_outputWave hwindow hwav2 hwav3 _ i hi, silent_overlap hwindow hwav2 k.wav3 i hi⟩

end Sys2Proof.Machine
end

section
/-! SUPPORT. The PCM output stage (spec/45_pcm.md R150-R158): the clamp and the words of the five formats, and PCMBUF
after a run of PCM_OUT in which no sample is a NaN. -/

namespace Sys2Proof.Machine

/-! ### The value of a pattern -/

theorem natAbs_fInt (x : F32) : (fInt x).natAbs = fUnits x := by
  unfold fInt
  split <;> simp

theorem abs_fInt (x : F32) : |fInt x| = fUnits x := by rw [Int.abs_eq_natAbs, natAbs_fInt]

theorem fInt_one : fInt 0x3F800000 = 2 ^ 149 := rfl

theorem fInt_neg_one : fInt 0xBF800000 = -(2 ^ 149) := rfl

theorem natAbs_fTrunc (x : F32) : (fTrunc x).natAbs = fUnits x / 2 ^ 149 := by
  unfold fTrunc
  split <;> omega

theorem fFrac_lt (x : F32) : fFrac x < 2 ^ 23 := Nat.mod_lt _ (by decide)

/-- A larger exponent is a larger magnitude, whatever the fractions. -/
theorem fUnits_lt_of_fExp_lt {x y : F32} (h : fExp x < fExp y) : fUnits x < fUnits y := by
  have hx := fFrac_lt x
  have hy : 2 ^ 23 * 2 ^ (fExp y - 1) ≤ fUnits y := by
    rw [fUnits, if_neg (by omega)]
    exact Nat.mul_le_mul_right _ (by omega)
  refine lt_of_lt_of_le ?_ hy
  by_cases hzero : fExp x = 0
  · rw [fUnits, if_pos hzero]
    exact hx.trans_le (Nat.le_mul_of_pos_right _ (Nat.two_pow_pos _))
  · rw [fUnits, if_neg hzero]
    calc (2 ^ 23 + fFrac x) * 2 ^ (fExp x - 1)
        < 2 ^ 24 * 2 ^ (fExp x - 1) := Nat.mul_lt_mul_of_pos_right (by omega) (Nat.two_pow_pos _)
      _ = 2 ^ 23 * 2 ^ (fExp x - 1 + 1) := by rw [pow_succ]; ring
      _ ≤ 2 ^ 23 * 2 ^ (fExp y - 1) := Nat.mul_le_mul_left _ (Nat.pow_le_pow_right (by decide) (by omega))

/-- The sign and the magnitude determine the pattern. -/
theorem eq_of_fNeg_of_fUnits {x y : F32} (hneg : fNeg x = fNeg y) (hunits : fUnits x = fUnits y) : x = y := by
  have hexp : fExp x = fExp y := by
    rcases Nat.lt_trichotomy (fExp x) (fExp y) with h | h | h
    · exact absurd hunits (fUnits_lt_of_fExp_lt h).ne
    · exact h
    · exact absurd hunits (fUnits_lt_of_fExp_lt h).ne'
  have hfrac : fFrac x = fFrac y := by
    unfold fUnits at hunits
    rw [hexp] at hunits
    split at hunits
    · exact hunits
    · exact Nat.add_left_cancel (Nat.eq_of_mul_eq_mul_right (Nat.two_pow_pos _) hunits)
  have hsign : 2 ^ 31 ≤ x.toNat ↔ 2 ^ 31 ≤ y.toNat := decide_eq_decide.mp hneg
  have hx := x.isLt
  have hy := y.isLt
  unfold fExp at hexp
  unfold fFrac at hfrac
  exact BitVec.eq_of_toNat_eq (by omega)

theorem isInfinity_or_fFinite {x : F32} (h : fIsNaN x = false) : IsInfinity x ∨ fFinite x = true := by
  rw [isInfinity_iff, fFinite_eq_true_iff]
  by_cases hexp : fExp x = 255
  · have hfrac : fFrac x = 0 := by simpa [fIsNaN, hexp] using h
    exact .inl (by simp [fIsInf, hexp, hfrac])
  · exact .inr hexp

/-- A magnitude of at most 1.0 is that of a finite value. -/
theorem fFinite_of_fUnits_le_one {x : F32} (h : fUnits x ≤ 2 ^ 149) : fFinite x = true := by
  rw [fFinite_eq_true_iff]
  intro hexp
  have hone : fUnits 0x3F800000 = 2 ^ 149 := rfl
  have hlt : fUnits 0x3F800000 < fUnits x := fUnits_lt_of_fExp_lt (by rw [hexp]; decide)
  omega

/-! ### A rounded product -/

/-- Rounding does not pass a finite value from below. -/
theorem IsNearestEven.fInt_le {r y : F32} {exact scale : Int} (h : IsNearestEven r exact scale) (hscale : 0 < scale)
    (hy : fFinite y = true) (hle : exact ≤ fInt y * scale) : fInt r ≤ fInt y := by
  by_contra hlt
  rw [not_le] at hlt
  obtain ⟨hnear, -⟩ := h.2 y hy hlt.ne
  have hmul := mul_lt_mul_of_pos_right hlt hscale
  rw [abs_of_nonneg (by omega), abs_of_nonneg (by omega)] at hnear
  omega

/-- Rounding does not pass a finite value from above. -/
theorem IsNearestEven.le_fInt {r y : F32} {exact scale : Int} (h : IsNearestEven r exact scale) (hscale : 0 < scale)
    (hy : fFinite y = true) (hle : fInt y * scale ≤ exact) : fInt y ≤ fInt r := by
  by_contra hlt
  rw [not_le] at hlt
  obtain ⟨hnear, -⟩ := h.2 y hy hlt.ne'
  have hmul := mul_lt_mul_of_pos_right hlt hscale
  rw [abs_of_nonpos (by omega), abs_of_nonpos (by omega)] at hnear
  omega

/-- A finite value is what it rounds to. -/
theorem IsNearestEven.fInt_eq {r y : F32} {scale : Int} (h : IsNearestEven r (fInt y * scale) scale)
    (hscale : 0 < scale) (hy : fFinite y = true) : fInt r = fInt y :=
  le_antisymm (h.fInt_le hscale hy le_rfl) (h.le_fInt hscale hy le_rfl)

/-- The largest finite value is below the overflow bound. -/
theorem abs_fInt_lt_overflowBound {x : F32} (h : fFinite x = true) : |fInt x| < overflowBound := by
  have hfrac := fFrac_lt x
  have hexp : fExp x < 256 := Nat.mod_lt _ (by decide)
  have hfinite := (fFinite_eq_true_iff x).mp h
  have hle : fUnits x ≤ (2 ^ 24 - 1) * 2 ^ 253 := by
    unfold fUnits
    split
    · omega
    · exact Nat.mul_le_mul (by omega) (Nat.pow_le_pow_right (by decide) (by omega))
  rw [abs_fInt, overflowBound]
  omega

/-- A volume of 1.0 leaves a sample as it is (R151). -/
theorem fmul_one {f : F32} (h : fIsNaN f = false) : fmul f 0x3F800000 = f := by
  have hsign : (fNeg f != fNeg 0x3F800000) = fNeg f := Bool.xor_false _
  rcases isInfinity_or_fFinite h with hinf | hfinite
  · rcases hinf with rfl | rfl <;> rfl
  · obtain ⟨hrounds, -⟩ := fmul_rounds hfinite (b := 0x3F800000) rfl
    have hnearest : IsNearestEven (fmul f 0x3F800000) (fInt f * 2 ^ 149) (2 ^ 149) := by
      refine hrounds ?_
      have hbound := abs_fInt_lt_overflowBound hfinite
      rw [fInt_one, abs_mul, abs_of_pos (by decide : (0 : Int) < 2 ^ 149)]
      exact mul_lt_mul_of_pos_right hbound (by decide)
    have hint := hnearest.fInt_eq (by decide) hfinite
    refine eq_of_fNeg_of_fUnits ?_ ?_
    · rw [fmul_finite hfinite rfl, fNeg_fRound, hsign]
    · rw [← natAbs_fInt, hint, natAbs_fInt]

/-- A sample in [-1, 1] times an integer has a truncated product no larger than the integer (R153-R156). -/
theorem abs_fTrunc_fmul_le {f c : F32} {n : Nat} (hf : |fInt f| ≤ 2 ^ 149) (hc : fFinite c = true)
    (hn : fInt c = n * 2 ^ 149) : |fTrunc (fmul f c)| ≤ n := by
  have hpos : (0 : Int) < 2 ^ 149 := by decide
  have hfinite : fFinite f = true := fFinite_of_fUnits_le_one (by rw [abs_fInt] at hf; exact_mod_cast hf)
  have hprod : |fInt f * fInt c| ≤ fInt c * 2 ^ 149 := by
    have hc0 : 0 ≤ fInt c := by omega
    rw [abs_mul, abs_of_nonneg hc0, mul_comm]
    exact mul_le_mul_of_nonneg_left hf hc0
  have hbound : |fInt f * fInt c| < overflowBound * 2 ^ 149 :=
    hprod.trans_lt (mul_lt_mul_of_pos_right ((le_abs_self _).trans_lt (abs_fInt_lt_overflowBound hc)) hpos)
  have hnearest := (fmul_rounds hfinite hc).1 hbound
  obtain ⟨hlow, hhigh⟩ := abs_le.mp hprod
  have hle : fInt (fmul f c) ≤ fInt c := hnearest.fInt_le hpos hc hhigh
  have hge : -fInt c ≤ fInt (fmul f c) := by
    rw [← fInt_flipSign]
    refine hnearest.le_fInt hpos ((fFinite_flipSign c).trans hc) ?_
    rwa [fInt_flipSign, neg_mul]
  rw [Int.abs_eq_natAbs, natAbs_fTrunc, ← natAbs_fInt]
  omega

/-! ### The clamp and the words -/

theorem flt_iff {a b : F32} (ha : fIsNaN a = false) (hb : fIsNaN b = false) : flt a b = true ↔ fInt a < fInt b := by
  simp [flt, ha, hb]

section Clamp

variable {f : F32} (hnan : fIsNaN f = false)
include hnan

theorem above_one_iff : flt 0x3F800000 f = true ↔ 2 ^ 149 < fInt f := fInt_one ▸ flt_iff rfl hnan

theorem below_neg_one_iff : flt f 0xBF800000 = true ↔ fInt f < -(2 ^ 149) := fInt_neg_one ▸ flt_iff hnan rfl

/-- The clamp by the value of the sample (R152). -/
theorem clampSample_eq : clampSample f =
    if 2 ^ 149 < fInt f then 0x3F800000 else if fInt f < -(2 ^ 149) then 0xBF800000 else f := by
  simp only [clampSample, above_one_iff hnan, below_neg_one_iff hnan]

theorem clampSample_of_gt (h : 2 ^ 149 < fInt f) : clampSample f = 0x3F800000 := by
  rw [clampSample_eq hnan, if_pos h]

theorem clampSample_of_lt (h : fInt f < -(2 ^ 149)) : clampSample f = 0xBF800000 := by
  rw [clampSample_eq hnan, if_neg (by omega), if_pos h]

theorem clampSample_of_mem (hlow : -(2 ^ 149) ≤ fInt f) (hhigh : fInt f ≤ 2 ^ 149) : clampSample f = f := by
  rw [clampSample_eq hnan, if_neg (by omega), if_neg (by omega)]

end Clamp

/-- An integer in the range of a word is the word's signed value. -/
theorem toInt_word {n : Int} (hlow : -(2 ^ 31) ≤ n) (hhigh : n < 2 ^ 31) : (BitVec.ofInt 32 n).toInt = n :=
  BitVec.toInt_ofInt_eq_self (by decide) hlow hhigh

theorem toInt_word_of_abs_le {n b : Int} (h : |n| ≤ b) (hb : b < 2 ^ 31) : (BitVec.ofInt 32 n).toInt = n := by
  obtain ⟨hlow, hhigh⟩ := abs_le.mp h
  exact toInt_word (by omega) (by omega)

/-- Settles O36: rounding does not pass a finite value, so a sample in [-1, 1] times a format's factor stays within
the factor. -/
theorem sampleConversion : Obligations.SampleConversion := by
  intro f hnan
  refine ⟨fmul_one hnan, clampSample_of_gt hnan, clampSample_of_lt hnan, fun hlow hhigh => ?_⟩
  have hf : |fInt f| ≤ 2 ^ 149 := abs_le.mpr ⟨hlow, hhigh⟩
  have h0 : |fTrunc (fmul f 0x46FFFE00)| ≤ 32767 := abs_fTrunc_fmul_le (n := 32767) hf rfl rfl
  have h1 := abs_le.mp (abs_fTrunc_fmul_le (c := 0x42FE0000) (n := 127) hf rfl rfl)
  have h2 : |fTrunc (fmul f 0x4AFFFFFE)| ≤ 8388607 := abs_fTrunc_fmul_le (n := 8388607) hf rfl rfl
  have h3 := abs_le.mp (abs_fTrunc_fmul_le (c := 0x4F000000) (n := 2147483648) hf rfl rfl)
  have hword0 : (convertSample 0 f).toInt = fTrunc (fmul f 0x46FFFE00) := toInt_word_of_abs_le h0 (by decide)
  have hword1 : ((convertSample 1 f).toNat : Int) = fTrunc (fmul f 0x42FE0000) + 128 := by
    have hofInt : (convertSample 1 f).toNat = ((fTrunc (fmul f 0x42FE0000) + 128) % 2 ^ 32).toNat :=
      BitVec.toNat_ofInt _
    omega
  have hword2 : (convertSample 2 f).toInt = fTrunc (fmul f 0x4AFFFFFE) := toInt_word_of_abs_le h2 (by decide)
  have hword3 : (convertSample 3 f).toInt = min (fTrunc (fmul f 0x4F000000)) 2147483647 :=
    toInt_word (by omega) (by omega)
  exact ⟨clampSample_of_mem hnan hlow hhigh, hword0, hword0 ▸ h0, hword1, by omega, by omega, hword2, hword2 ▸ h2,
    hword3, rfl⟩

/-! ### PCMBUF after a run without a NaN -/

theorem mem_sampleOrder_iff {c sf j ch : Nat} : (sf, j, ch) ∈ sampleOrder c ↔ sf < 8 ∧ j < 128 ∧ ch < c := by
  simp only [sampleOrder, List.mem_flatMap, List.mem_map, List.mem_range, Prod.mk.injEq]
  constructor
  · rintro ⟨_, hsf, _, hj, _, hch, rfl, rfl, rfl⟩
    exact ⟨hsf, hj, hch⟩
  · rintro ⟨hsf, hj, hch⟩
    exact ⟨sf, hsf, j, hj, ch, hch, rfl, rfl, rfl⟩

/-- No two samples of a block have the same place (R158). -/
theorem sampleIndex_injective {c sf j ch sf' j' ch' : Nat} (hj : j < 128) (hch : ch < c) (hj' : j' < 128)
    (hch' : ch' < c) (h : sampleIndex c sf' j' ch' = sampleIndex c sf j ch) : (sf', j', ch') = (sf, j, ch) := by
  have hc : 0 < c := by omega
  have hdiv (n r : Nat) (hr : r < c) : (n * c + r) / c = n := by
    rw [mul_comm, Nat.mul_add_div hc, Nat.div_eq_of_lt hr, add_zero]
  have hslot : sf' * 128 + j' = sf * 128 + j :=
    (hdiv _ _ hch').symm.trans ((congrArg (· / c) h).trans (hdiv _ _ hch))
  obtain ⟨rfl, rfl⟩ : sf' = sf ∧ j' = j := by omega
  obtain rfl : ch' = ch := Nat.add_left_cancel h
  rfl

theorem sampleWord_of_not_nan {volume x : F32} (fmt : Nat) (h : fIsNaN (fmul x volume) = false) :
    sampleWord volume fmt x = some (convertSample fmt (clampSample (fmul x volume))) := by
  rw [sampleWord, if_neg (by simp [h])]

/-- PCM_OUT faults on nothing but a NaN (R152). -/
theorem exists_pcmRun_ok {s : State} {c : Nat} {l : List (Nat × Nat × Nat)}
    (h : ∀ sf j ch, (sf, j, ch) ∈ l → fIsNaN (fmul (s.wave ch sf j) s.volume) = false) (p : Cells 32) :
    ∃ q, pcmRun s c l p = .ok q := by
  induction l generalizing p with
  | nil => exact ⟨p, rfl⟩
  | cons x l ih =>
    obtain ⟨sf, j, ch⟩ := x
    rw [pcmRun, sampleWord_of_not_nan _ (h sf j ch List.mem_cons_self)]
    exact ih (fun sf j ch hmem => h sf j ch (List.mem_cons_of_mem _ hmem)) _

/-- A word that some sample is stored to, or that stood there, stands there after a run that stores nothing else to
its place. -/
theorem pcmRead_pcmRun {s : State} {c w : Nat} {v : Word} (hw : w < 16384) {l : List (Nat × Nat × Nat)}
    {p q : Cells 32} (hp : pcmWf p = true) (h : pcmRun s c l p = .ok q)
    (honly : ∀ sf j ch, (sf, j, ch) ∈ l → sampleIndex c sf j ch = w →
      sampleWord s.volume s.pcmFormat.toNat (s.wave ch sf j) = some v)
    (hsome : (∃ x ∈ l, sampleIndex c x.1 x.2.1 x.2.2 = w) ∨ pcmRead p w = v) : pcmRead q w = v := by
  induction l generalizing p with
  | nil =>
    cases h
    exact hsome.resolve_left (by simp)
  | cons x l ih =>
    obtain ⟨sf, j, ch⟩ := x
    rw [pcmRun] at h
    split at h
    case h_1 => cases h
    case h_2 u hword =>
      refine ih (pcmWrite_wf _ _ hp) h (fun sf j ch hmem => honly sf j ch (List.mem_cons_of_mem _ hmem)) ?_
      rw [pcmRead_pcmWrite _ _ hp]
      by_cases hindex : sampleIndex c sf j ch = w
      · have huv : u = v :=
          Option.some.inj (hword.symm.trans (honly sf j ch List.mem_cons_self hindex))
        exact .inr (by rw [if_pos ⟨hindex.symm, hindex ▸ hw⟩, huv])
      · rw [if_neg fun hsame => hindex hsame.1.symm]
        refine hsome.imp_left ?_
        rintro ⟨y, hy, hyw⟩
        rcases List.mem_cons.mp hy with rfl | hy
        · exact absurd hyw hindex
        · exact ⟨y, hy, hyw⟩

/-- Settles O48: the run ends without a fault, each sample has a place of its own, and the places end at 1024 x C. -/
theorem pcmOutWritesTheBlock : Obligations.PcmOutWritesTheBlock := by
  intro s hp hc hnan
  obtain ⟨q, hq⟩ := exists_pcmRun_ok (c := s.channels.toNat) (l := sampleOrder s.channels.toNat)
    (fun sf j ch hmem => by
      obtain ⟨hsf, hj, hch⟩ := mem_sampleOrder_iff.mp hmem
      exact hnan sf j ch hsf hj hch) s.pcm
  obtain ⟨-, htail⟩ := pcmRun_sampleOrder_keeps hp hq
  refine ⟨{ s with pcm := q }, congrArg Host.Outcome.next (pcmOut_of_ok hq), rfl,
    fun sf j ch hsf hj hch => ?_, htail⟩
  have hmem : (sf, j, ch) ∈ sampleOrder s.channels.toNat := mem_sampleOrder_iff.mpr ⟨hsf, hj, hch⟩
  have hlt := sampleIndex_lt hmem
  refine pcmRead_pcmRun (by simp only [sampleIndex] at hlt; omega) hp hq (fun sf' j' ch' hmem' hsame => ?_)
    (.inl ⟨_, hmem, rfl⟩)
  obtain ⟨-, hj', hch'⟩ := mem_sampleOrder_iff.mp hmem'
  cases sampleIndex_injective hj hch hj' hch' hsame
  exact sampleWord_of_not_nan _ (hnan sf j ch hsf hj hch)

end Sys2Proof.Machine
end

section
/-! SUPPORT. The host operations that HCADEC accepts (spec/46_commands.md R160, R169): each form of a host operation
does its own effect where the phase allows it; then reads, register writes and byte writes, NOP and ACK. -/

namespace Sys2Proof.Machine

/-! ### Accepted operations -/

section Accepted

variable {s : State}

theorem hostCommand_of_ready (act : State → State) (h : s.Ready) : hostCommand act s = act s := by
  rcases hostCommand_cases act s with ⟨hp, -⟩ | ⟨hp, -⟩ | ⟨-, e⟩
  · exact absurd hp (ne_faulted_of_ready h)
  · rcases h with hr | hr <;> cases hr.symm.trans hp
  · exact e

/-- A read that passes the checks is accepted outside BUSY, and in BUSY too for ID and STATUS (R169). -/
theorem hostRead_of_accepted (addr v : Word) {always : Bool} (h : s.phase = .busy → always = true) :
    hostRead addr true always v s = s.returns v := by
  rcases hostRead_cases addr true always v s with ⟨-, -, e⟩ | ⟨-, hok, -⟩ | ⟨-, hok, -⟩ | ⟨hp, -, hno, -⟩ |
    ⟨-, -, -, e⟩
  · exact e
  · cases hok
  · cases hok
  · cases (h hp).symm.trans hno
  · exact e

/-- A write that passes the checks is accepted in UNCONFIGURED, and in CONFIGURED too where it is not locked
(R169, R177). -/
theorem hostWrite_of_accepted (addr : Word) {locked : Bool} (store : State → State)
    (h : s.phase = .unconfigured ∨ s.phase = .configured ∧ locked = false) :
    hostWrite addr true locked store s = store s := by
  have hready : s.Ready := h.imp_right And.left
  rcases hostWrite_cases addr true locked store s with ⟨hp, -⟩ | ⟨-, hok, -⟩ | ⟨hp, -⟩ | ⟨hp, -, hl, -⟩ |
    ⟨-, -, e⟩
  · exact absurd hp (ne_faulted_of_ready hready)
  · cases hok
  · rcases hready with hr | hr <;> cases hr.symm.trans hp
  · rcases h with hr | ⟨-, hr⟩
    · cases hr.symm.trans hp
    · cases hr.symm.trans hl
  · exact e

end Accepted

/-- Settles O6: in both phases a command word does its own effect. -/
theorem nopAndAck : Obligations.NopAndAck := by
  intro s h
  refine ⟨congrArg Host.Outcome.next (hostCommand_of_ready id h),
    congrArg Host.Outcome.next (hostCommand_of_ready (fun s => { s with done := false }) h), ?_⟩
  rw [Bool.eq_false_iff, Ne, irq_eq_true_iff]
  rintro (⟨hdone, -⟩ | ⟨hp, -⟩)
  · cases hdone
  · exact ne_faulted_of_ready h hp

/-! ### Reads -/

theorem exec_regRead {r : Reg} (hr : r.readable = true) {s : State}
    (h : s.phase = .busy → r.readableBusy = true) : exec (.regRead r) s = .next (s.returns (s.reg r)) := by
  rw [exec, execRegRead, hr, hostRead_of_accepted _ _ h]

/-- Settles O17: every readable register is read outside BUSY, ID and STATUS in BUSY too. -/
theorem registerReads : Obligations.RegisterReads := by
  intro s
  refine ⟨exec_regRead rfl fun _ => rfl, exec_regRead rfl fun _ => rfl, fun hp => ?_⟩
  have hread {r : Reg} (hr : r.readable = true) : exec (.regRead r) s = .next (s.returns (s.reg r)) :=
    exec_regRead hr fun hb => absurd hb hp
  exact ⟨hread rfl, hread rfl, hread rfl, hread rfl, hread rfl, hread rfl, hread rfl, hread rfl, hread rfl,
    hread rfl, hread rfl, hread rfl, hread rfl, hread rfl, hread rfl, hread rfl, hread rfl, hread rfl⟩

/-- Settles O19: every window is read outside BUSY. -/
theorem windowReads : Obligations.WindowReads := by
  intro s hp
  have hread (addr v : Word) : Host.Outcome.next (hostRead addr true false v s)
      = (.next (s.returns v) : Result) :=
    congrArg Host.Outcome.next (hostRead_of_accepted addr v fun hb => absurd hb hp)
  exact ⟨fun _ => hread .., fun _ => hread .., fun _ => hread .., fun _ => hread ..⟩

/-! ### Writes -/

theorem exec_regWrite {r : Reg} (hr : r.writable = true) (v : Word) {s : State}
    (h : s.phase = .unconfigured ∨ s.phase = .configured ∧ r.config = false) :
    exec (.regWrite r v) s = .next (s.setReg r v) := by
  rw [exec, execRegWrite, hr, hostWrite_of_accepted _ _ h]

/-- Settles O20: IRQ_EN is not locked, and in UNCONFIGURED no register is. -/
theorem registerWrites : Obligations.RegisterWrites := by
  intro s v
  refine ⟨fun h => exec_regWrite rfl v (h.imp_right fun hp => ⟨hp, rfl⟩), fun hp => ?_⟩
  have hwrite {r : Reg} (hr : r.writable = true) : exec (.regWrite r v) s = .next (s.setReg r v) :=
    exec_regWrite hr v (.inl hp)
  exact ⟨hwrite rfl, hwrite rfl, hwrite rfl, hwrite rfl, hwrite rfl, hwrite rfl, hwrite rfl, hwrite rfl,
    hwrite rfl, hwrite rfl, hwrite rfl, hwrite rfl⟩

theorem memMapped_athAddr {i : Nat} (h : i < 128) : memMapped (athAddr i) = true := by
  simp only [memMapped, Bool.or_eq_true, Bool.and_eq_true, decide_eq_true_eq]
  rw [athAddr]
  omega

theorem memMapped_cipherAddr {i : Nat} (h : i < 256) : memMapped (cipherAddr i) = true := by
  simp only [memMapped, Bool.or_eq_true, Bool.and_eq_true, decide_eq_true_eq]
  rw [cipherAddr]
  omega

/-- An accepted byte write changes the byte at its address and nothing else. -/
theorem hostWrite_storeByte {s : State} {locked : Bool} (hm : s.mem.wf = true)
    (h : s.phase = .unconfigured ∨ s.phase = .configured ∧ locked = false) {addr : Nat}
    (hmapped : memMapped addr = true) (v : Byte) :
    ∃ t, (.next (hostWrite (BitVec.ofNat 32 addr) true locked (fun s => s.storeByte addr v) s) : Result) = .next t
      ∧ { t with mem := s.mem } = s ∧ ∀ a, memRead t.mem a = if a = addr then v else memRead s.mem a := by
  refine ⟨s.storeByte addr v, congrArg Host.Outcome.next (hostWrite_of_accepted _ _ h), rfl, fun a => ?_⟩
  rw [State.storeByte_mem, memRead_memWrite _ _ hm]
  simp only [hmapped, and_true]

/-- Settles O21: each window decodes to its own write, which ATH and CIPHER take in UNCONFIGURED only. -/
theorem byteWrites : Obligations.ByteWrites := by
  intro s w hm
  refine ⟨fun hp => ⟨fun i => ⟨decode_athWrite i w, ?_⟩, fun i => ⟨decode_cipherWrite i w, ?_⟩⟩,
    fun hready i => ⟨decode_blockbufWrite i w, ?_⟩⟩
  · exact hostWrite_storeByte hm (.inl hp) (memMapped_athAddr i.isLt) _
  · exact hostWrite_storeByte hm (.inl hp) (memMapped_cipherAddr i.isLt) _
  · exact hostWrite_storeByte hm (hready.imp_right fun hp => ⟨hp, rfl⟩) (memMapped_blockAddr i.isLt) _

end Sys2Proof.Machine
end

section
/-! SUPPORT. RESET and CONFIGURE (spec/46_commands.md R163-R165): the reset values, the first failing check, and what
CONFIGURE derives, with the channel-type loop of spec/30_encoding.md R92 track by track. -/

namespace Sys2Proof.Machine

/-! ### RESET -/

theorem chan_resetAll (s : State) {ch : Nat} (h : ch < 16) : s.resetAll.chan ch = Channel.reset := by
  simp [State.chan, State.resetAll, State.reset, h]

theorem afterReset_resetAll (s : State) : s.resetAll.AfterReset := by
  refine ⟨rfl, rfl, rfl, rfl, rfl, rfl, rfl, rfl, rfl, rfl, rfl, rfl, rfl, rfl, rfl, rfl, rfl, rfl, rfl, rfl, rfl,
    rfl, rfl, rfl, fun i hi => ?ath, fun i hi => ?cipher, fun i hi => ?block, fun _ _ => rfl, fun ch hch => ?chan⟩
  case ath => exact if_neg (by rw [athAddr]; omega)
  case cipher =>
    refine (if_pos (by rw [cipherAddr]; omega)).trans (congrArg _ ?_)
    exact Nat.add_sub_cancel_left ..
  case block => exact if_neg (by rw [blockAddr]; omega)
  case chan =>
    have hchan := chan_resetAll s hch
    have hwave (sf i : Nat) (hsf : sf < 8) (hi : i < 128) : s.resetAll.wave ch sf i = 0 := by
      simp [State.wave, hchan, Channel.reset, hsf, hi]
    rw [hchan]
    refine ⟨rfl, rfl, fun k hk => by simp [Channel.reset, hk], fun i hi => ?_⟩
    simp only [Channel.reset, entry_replicate, if_pos hi, true_and]
    exact fun sf hsf => hwave sf i hsf hi

/-- Settles O7: the reset state is what RESET makes of it, and the registers are read off the reset values. -/
theorem resetGivesResetValues : Obligations.ResetGivesResetValues := by
  refine ⟨afterReset_resetAll State.reset, fun s =>
    ⟨s.resetAll, rfl, afterReset_resetAll s, rfl, rfl, rfl, fun r hid _ hvolume => ?_⟩⟩
  cases r with
  | id => exact absurd rfl hid
  | volume => exact absurd rfl hvolume
  | _ => rfl

/-! ### The checks of CONFIGURE -/

/-- Check 7 of R163 asks for a finite VOLUME. -/
theorem condition_seven_iff (s : State) : s.condition 7 ↔ fFinite s.volume = true := by
  refine ⟨fun h => (fFinite_eq_true_iff _).mpr fun hexp => h ?_, exponent_field_ne_of_fFinite⟩
  exact BitVec.eq_of_toNat_eq ((toNat_exponent_field _).trans hexp)

/-- CONFIGURE finds the first failing check, or every check passes. Check 7 is written in the machine as a finite
VOLUME, so both forms of it are kept at hand. -/
theorem configCheck_cases (s : State) :
    (s.configCheck = none ∧ s.conditions)
      ∨ ∃ k, s.configCheck = some k ∧ ¬s.condition k ∧ 1 ≤ k ∧ k ≤ 8 ∧ ∀ m, 1 ≤ m → m < k → s.condition m := by
  cases hcheck : s.configCheck with
  | none => exact .inl ⟨rfl, conditions_of_configCheck hcheck⟩
  | some k =>
    refine .inr ⟨k, rfl, ?_⟩
    have hseven : fFinite s.volume = true ∧ s.condition 7 ∨ ¬fFinite s.volume = true ∧ ¬s.condition 7 := by
      rw [condition_seven_iff, and_self, and_self]
      exact em _
    unfold State.configCheck at hcheck
    rcases hseven with ⟨_, _⟩ | ⟨_, _⟩ <;> split_ifs at hcheck <;> obtain rfl := Option.some.inj hcheck
    all_goals
      refine ⟨‹_›, by decide, by decide, fun m hm hlt => ?_⟩
      interval_cases m <;> assumption

theorem configCheck_of_conditions {s : State} (h : s.conditions) : s.configCheck = none := by
  rcases configCheck_cases s with ⟨hnone, -⟩ | ⟨k, -, hk, h1, h8, -⟩
  · exact hnone
  · exact absurd (h k h1 h8) hk

theorem configCheck_of_first {s : State} {n : Nat} (h1 : 1 ≤ n) (h8 : n ≤ 8) (hn : ¬s.condition n)
    (hbefore : ∀ m, 1 ≤ m → m < n → s.condition m) : s.configCheck = some n := by
  rcases configCheck_cases s with ⟨-, hall⟩ | ⟨k, hk, hfail, hk1, -, hpass⟩
  · exact absurd (hall n h1 h8) hn
  · rcases Nat.lt_trichotomy n k with hlt | rfl | hlt
    · exact absurd (hpass n h1 hlt) hn
    · exact hk
    · exact absurd (hbefore k hk1 hlt) hfail

theorem exec_configure {s : State} (hp : s.phase = .unconfigured) : exec .configure s = .next (opConfigure s) := by
  rw [exec, execConfigure, hostCommand_of_ready _ (.inl hp), if_pos hp]

/-- Settles O9: CONFIGURE raises the fault of the check it finds. -/
theorem configureReportsFirstFailingCheck : Obligations.ConfigureReportsFirstFailingCheck := by
  intro s n hp h1 h8 hn hbefore
  rw [exec_configure hp, opConfigure, configCheck_of_first h1 h8 hn hbefore]
  rfl

/-! ### The channel-type loop -/

/-- The pair of a primary and a secondary channel at offset `k` of a track that begins at channel `c`, where the
track has one there. -/
def markPair (p : Prop) [Decidable p] (c k : Nat) (types : Nat → ChanType) : Nat → ChanType :=
  if p then Function.update (Function.update types (c + k) .primary) (c + k + 1) .secondary else types

section Track

variable {p : Prop} [Decidable p] {b r04 c k o ch : Nat} {types : Nat → ChanType}

theorem markPair_of_ne (h : p → ch ≠ c + k ∧ ch ≠ c + k + 1) : markPair p c k types ch = types ch := by
  unfold markPair
  split
  case isTrue hp =>
    obtain ⟨hprimary, hsecondary⟩ := h hp
    rw [Function.update_of_ne hsecondary, Function.update_of_ne hprimary]
  case isFalse => rfl

theorem markPair_offset : markPair p c k types (c + o)
    = if p ∧ o = k + 1 then .secondary else if p ∧ o = k then .primary else types (c + o) := by
  unfold markPair
  by_cases hp : p
  · simp [hp, Function.update_apply, Nat.add_assoc]
  · simp [hp]

/-- The loop of R92 marks at most four pairs in a track of up to eight channels. -/
theorem typesOfTrack_eq (h : b ≤ 8) : typesOfTrack b r04 c types
    = markPair (b = 8) c 6 (markPair (b = 8) c 4 (markPair (b = 6 ∨ b = 7) c 4
        (markPair (b = 5 ∧ r04 ≤ 2) c 3 (markPair (b = 4 ∧ r04 = 0) c 2 (markPair True c 0 types))))) := by
  rw [typesOfTrack, if_neg (by omega)]
  unfold markPair
  by_cases h8 : b = 8
  · simp only [if_pos h8]
    rfl
  · simp only [if_neg h8]
    rfl

/-- One pass of the loop writes no channel outside its track. -/
theorem typesOfTrack_outside (hb : 1 < b) (h : ch < c ∨ c + b ≤ ch) :
    typesOfTrack b r04 c types ch = types ch := by
  by_cases h8 : b ≤ 8
  · rw [typesOfTrack_eq h8, markPair_of_ne (by omega), markPair_of_ne (by omega), markPair_of_ne (by omega),
      markPair_of_ne (by omega), markPair_of_ne (by omega), markPair_of_ne (by omega)]
  · rw [typesOfTrack, if_pos (by omega)]

/-- One pass of the loop gives the channels of its track the types of R92, for each length of a track. -/
theorem typesOfTrack_inside (hb : 1 < b) (ho : o < b) (h : types (c + o) = .discrete) :
    typesOfTrack b r04 c types (c + o) = trackType b r04 o := by
  by_cases h8 : b ≤ 8
  · rw [typesOfTrack_eq h8]
    simp only [markPair_offset, h]
    unfold trackType
    interval_cases b <;> grind
  · rw [typesOfTrack, if_pos (by omega), h, trackType, if_pos (by omega)]

/-- After `n` passes the channels of the first `n` tracks have their types, and no other channel has one. -/
theorem foldl_typesOfTrack (hb : 1 < b) (n : Nat) :
    (List.range n).foldl (fun types t => typesOfTrack b r04 (t * b) types) (fun _ => .discrete) ch
      = if ch / b < n then trackType b r04 (ch % b) else .discrete := by
  induction n with
  | zero => rfl
  | succ n ih =>
    rw [List.range_succ, List.foldl_append, List.foldl_cons, List.foldl_nil]
    by_cases hn : ch / b = n
    · have hch : n * b + ch % b = ch := by rw [← hn, Nat.mul_comm, Nat.div_add_mod]
      rw [if_neg (by omega)] at ih
      have hinside := typesOfTrack_inside (r04 := r04) (c := n * b) (o := ch % b) hb
        (Nat.mod_lt ch (by omega)) ((congrArg _ hch).trans ih)
      rw [hch] at hinside
      rw [hinside, if_pos (by omega)]
    · have hout : ch < n * b ∨ n * b + b ≤ ch := by
        rw [← Nat.succ_mul, ← Nat.div_lt_iff_lt_mul (by omega), ← Nat.le_div_iff_mul_le (by omega)]
        omega
      have hiff : ch / b < n + 1 ↔ ch / b < n := by omega
      rw [typesOfTrack_outside hb hout, ih]
      simp only [hiff]

end Track

/-- The loop of R92 assigns every channel its type. -/
theorem typesByLoop_eq_assignType (c r03 r04 r07 ch : Nat) :
    typesByLoop c r03 r04 r07 ch = assignType c r03 r04 r07 ch := by
  unfold typesByLoop assignType
  by_cases hloop : r07 ≠ 0 ∧ 1 < c / r03
  · simp only [if_pos hloop, foldl_typesOfTrack hloop.2]
    simp only [hloop, true_and, ne_eq, not_false_eq_true]
  · rw [if_neg hloop, if_neg fun h => hloop ⟨h.1, h.2.1⟩]

/-! ### What CONFIGURE derives -/

theorem ceilDiv_le_iff {a b q : Nat} (hb : 0 < b) : ceilDiv a b ≤ q ↔ a ≤ q * b := by
  rw [ceilDiv, ← Nat.ceilDiv_eq_add_pred_div, ceilDiv_le_iff_le_mul hb, Nat.mul_comm]

theorem typeCode_lt_four (t : ChanType) : typeCode t < 4 := by cases t <;> decide

/-- The value of `n` digits in base 4 is below 4^n. -/
theorem sum_digits_lt {d : Nat → Nat} (hd : ∀ i, d i < 4) (n : Nat) :
    ((List.range n).map fun i => d i * 4 ^ i).sum < 4 ^ n := by
  induction n with
  | zero => simp
  | succ n ih =>
    have hdigit : d n * 4 ^ n ≤ 3 * 4 ^ n := Nat.mul_le_mul_right _ (Nat.le_of_lt_succ (hd n))
    rw [List.range_succ, List.map_append, List.sum_append, List.map_singleton, List.sum_singleton, Nat.pow_succ]
    omega

theorem chTypeOf_toNat {s : State} (h : s.channels.toNat ≤ 16) :
    s.chTypeOf.toNat = ((List.range s.channels.toNat).map fun ch => typeCode (s.typeOf ch) * 4 ^ ch).sum := by
  have hsum := sum_digits_lt (fun ch => typeCode_lt_four (s.typeOf ch)) s.channels.toNat
  have hpow : 4 ^ s.channels.toNat ≤ 4 ^ 16 := Nat.pow_le_pow_right (by decide) h
  rw [State.chTypeOf, BitVec.toNat_ofNat, Nat.mod_eq_of_lt (by omega)]

theorem hfrGroups_toNat {s : State} (h : s.condition 5) : (BitVec.ofNat 32 s.hfrGroups).toNat = s.hfrGroups := by
  obtain ⟨h05, -⟩ := h
  have hle := hfrGroups_le s
  rw [BitVec.toNat_ofNat, Nat.mod_eq_of_lt (by omega)]

/-- What CONFIGURE leaves in a channel: TYPE and COUNT below CHANNELS, nothing from there on. -/
theorem chan_opConfigure {s : State} (hc : s.configCheck = none) (ch : Nat) :
    (opConfigure s).chan ch = if ch < s.channels.toNat then
      { s.chan ch with type := s.typeOf ch, count := s.countOf ch } else s.chan ch := by
  have hchans : (opConfigure s).chan ch = s.assignChannels.chan ch :=
    State.chan_congr (by rw [opConfigure_eq hc]) ch
  rw [hchans]
  by_cases hch : ch < 16
  · exact chan_assignChannels s hch
  · have hle := channels_le_of_configCheck hc
    rw [State.chan_outside _ (by omega), State.chan_outside _ (by omega), if_neg (by omega)]

/-- Settles O10: R09 is a quotient rounded up, and the loop of R92 gives each channel its type. -/
theorem configureEffects : Obligations.ConfigureEffects := by
  intro s hp hconditions
  have hc := configCheck_of_conditions hconditions
  have hr09 : (opConfigure s).r09 = BitVec.ofNat 32 s.hfrGroups := by rw [opConfigure_eq hc]
  have hbelow (ch : Nat) (hch : ch < s.channels.toNat) : (opConfigure s).chan ch
      = { s.chan ch with type := s.typeOf ch, count := s.countOf ch } :=
    (chan_opConfigure hc ch).trans (if_pos hch)
  refine ⟨opConfigure s, exec_configure hp, opConfigure_phase hc, by rw [opConfigure_eq hc], fun h08 => ?_,
    fun h08 => ?_, fun ch hch => ?_, fun ch hch => ?_, ?_, by rw [opConfigure_eq hc]⟩
  · rw [hr09, State.hfrGroups, h08]
    rfl
  · have hpos : s.r08.toNat ≠ 0 := fun h => h08 (BitVec.eq_of_toNat_eq h)
    have hceil (q : Nat) := ceilDiv_le_iff (a := s.r05.toNat - (s.r06.toNat + s.r07.toNat)) (q := q)
      (Nat.pos_of_ne_zero hpos)
    rw [hr09, hfrGroups_toNat (hconditions 5 (by decide) (by decide)), State.hfrGroups, if_neg hpos]
    exact ⟨(hceil _).mp le_rfl, fun q hq => (hceil q).mpr hq⟩
  · rw [hbelow ch hch, typesByLoop_eq_assignType]
    exact ⟨rfl, rfl, rfl⟩
  · exact (chan_opConfigure hc ch).trans (if_neg (by omega))
  · have hchType : (opConfigure s).chType = s.chTypeOf := by rw [opConfigure_eq hc]
    rw [hchType, chTypeOf_toNat (channels_le_of_configCheck hc)]
    refine congrArg List.sum (List.map_congr_left fun ch hch => ?_)
    rw [hbelow ch (List.mem_range.mp hch)]

end Sys2Proof.Machine
end

section
/-! SUPPORT. The decoder's turn is a run of decoded instructions (spec/46_commands.md R167): the beginning of a body,
the stages of each channel and PCM_OUT, each as a run of the items of the fixed sequence. -/

namespace Sys2Proof.Machine

/-! ### Runs over channels and subframes -/

/-- A run of lists of items that each do one pass of a loop is the loop. -/
theorem runItems_flatMap {α : Type} {l : List α} {items : α → List SeqItem} {f : α → State → State}
    {P : State → Prop} (hrun : ∀ a ∈ l, ∀ s, s.phase ≠ .faulted → P s → runItems (items a) s = .next (f a s))
    (hkeep : ∀ a ∈ l, ∀ s, P s → P (f a s)) {s : State} (h : P s) :
    runItems (l.flatMap items) s = .next (forEach l f s) := by
  induction l generalizing s with
  | nil => rfl
  | cons a l ih =>
    rw [List.flatMap_cons, forEach_cons]
    by_cases hp : s.phase = .faulted
    · rw [runItems_faulted _ hp, State.andThen_of_faulted _ hp, forEach_faulted l f hp]
    · rw [runItems_append (hrun a List.mem_cons_self s hp h), State.andThen_of_not_faulted _ hp]
      exact ih (fun b hb => hrun b (List.mem_cons_of_mem a hb)) (fun b hb => hkeep b (List.mem_cons_of_mem a hb))
        (hkeep a List.mem_cons_self s h)

/-- A run of one item for each channel below `c`. -/
theorem runItems_channels {item : Chan → SeqItem} {f : Nat → State → State}
    (hexec : ∀ ch s, exec ((item ch).instr s) s = .next (f ch.val s)) {c : Nat} (hc : c ≤ 16) (s : State) :
    runItems ((channelsBelow c).map item) s = .next (forEach (List.range c) f s) := by
  have hrun := runItems_map (l := channelsBelow c) (item := item) (f := fun ch => f ch.val) (P := fun _ => True)
    (fun ch _ t _ => hexec ch t) (fun _ _ _ _ => trivial) (s := s) trivial
  rw [hrun, ← forEach_map, channelsBelow, map_val_filter_lt_finRange hc]

/-! ### The parts of a body -/

/-- DESCRAMBLE, BLOCK_START and the header of a block. -/
def headItems : List SeqItem := [.op .descramble, .op .blockStart, .field .header, .field .noise]

/-- The stages of one subframe over all channels (spec/43_reconstruct.md R139). -/
def subframeItems (c : Nat) (sf : Sub) : List SeqItem :=
  (channelsBelow c).map (fun ch => .op (.dequant ch sf)) ++ (channelsBelow c).map (fun ch => .op (.hfr ch))
    ++ (channelsBelow (c - 1)).map (fun ch => .op (.intensity ch sf))
    ++ (channelsBelow c).map (fun ch => .op (.synth ch sf))

theorem blockSequence_eq (c : Nat) :
    blockSequence c = headItems ++ (channelsBelow c).map (fun ch => .op (.stage1 ch))
      ++ (List.finRange 8).flatMap (subframeItems c) ++ [.op .pcmOut] := rfl

theorem exec_header (s : State) : exec ((SeqItem.field .header).instr s) s = .next (syncField s) := by
  rw [SeqItem.instr, decode, decodeField, peek_eq_readBits s (by decide)]
  rfl

theorem exec_noise (s : State) : exec ((SeqItem.field .noise).instr s) s = .next (noiseField s) := by
  rw [SeqItem.instr, decode, decodeField, peek_eq_readBits s (by decide), ← s.reader_eq_readBits (by decide)]
  rfl

theorem runItems_headItems {s : State} (hp : s.phase ≠ .faulted) :
    runItems headItems s = .next ((bodyHead s).andThen noiseField) := by
  have hdescramble : (descramble s).phase ≠ .faulted := by rwa [descramble_eq]
  have hstart : (blockStart (descramble s)).phase ≠ .faulted := hdescramble
  rw [headItems, runItems_cons _ hp (t := descramble s) rfl,
    runItems_cons _ hdescramble (t := blockStart (descramble s)) rfl, runItems_cons _ hstart (exec_header _)]
  change runItems [.field .noise] (bodyHead s) = _
  by_cases hsync : (bodyHead s).phase = .faulted
  · rw [runItems_faulted _ hsync, State.andThen_of_faulted _ hsync]
  · rw [runItems_cons _ hsync (exec_noise _), State.andThen_of_not_faulted _ hsync]
    rfl

theorem runItems_subframeItems {s : State} (hc : s.channels.toNat ≤ 16) (sf : Sub) :
    runItems (subframeItems s.channels.toNat sf) s = .next (subframe Config.params sf.val s) := by
  rw [subframeItems, List.append_assoc, List.append_assoc,
    runItems_append (runItems_channels (f := dequant) (fun _ _ => rfl) hc s),
    runItems_append (runItems_channels (f := hfr) (fun _ _ => rfl) hc _),
    runItems_append (runItems_channels (f := fun ch => intensity Config.params ch sf.val) (fun _ _ => rfl)
      ((Nat.sub_le ..).trans hc) _),
    runItems_channels (f := fun ch => synth Config.params ch sf.val) (fun _ _ => rfl) hc]
  rfl

/-- The stages of a body, in a state whose CHANNELS the sequence was made for. -/
theorem runItems_bodyStages {s : State} (hc : s.channels.toNat ≤ 16) :
    runItems ((channelsBelow s.channels.toNat).map (fun ch => .op (.stage1 ch))
        ++ (List.finRange 8).flatMap (subframeItems s.channels.toNat)) s
      = .next (bodyStages Config.params s) := by
  have hstage1 := StageStep.forEach (l := List.range s.channels.toNat) (fun ch _ => stageStep_stage1 ch) s
  rw [runItems_append (runItems_channels (f := stage1) (fun _ _ => rfl) hc s),
    runItems_flatMap (f := fun sf : Sub => subframe Config.params sf.val) (P := fun t => t.channels = s.channels)
      (fun sf _ t _ ht => ht ▸ runItems_subframeItems (ht ▸ hc) sf)
      (fun sf _ t ht => (stageStep_subframe _ sf.val t).channels.trans ht) hstage1.channels,
    ← forEach_map, List.map_coe_finRange_eq_range]
  rfl

theorem runItems_blockSequence {s : State} (hp : s.phase ≠ .faulted) (hc : s.channels.toNat ≤ 16) :
    runItems (blockSequence s.channels.toNat) s
      = .next ((bodyStages Config.params ((bodyHead s).andThen noiseField)).andThen pcmOut) := by
  have hhead : ((bodyHead s).andThen noiseField).channels = s.channels := by
    rw [((stageStep_bodyHead s).andThen stageStep_noiseField).channels, descramble_eq]
  have hstages := runItems_bodyStages (s := (bodyHead s).andThen noiseField) (by rwa [hhead])
  rw [hhead] at hstages
  rw [blockSequence_eq, List.append_assoc headItems, List.append_assoc headItems,
    runItems_append (runItems_headItems hp), runItems_append hstages]
  generalize bodyStages Config.params ((bodyHead s).andThen noiseField) = t
  by_cases ht : t.phase = .faulted
  · rw [runItems_faulted _ ht, State.andThen_of_faulted _ ht]
  · rw [runItems_cons _ ht (t := pcmOut t) rfl, State.andThen_of_not_faulted _ ht]
    rfl

/-- Settles O23: a body is the run of the fixed sequence up to PCM_OUT, and then its end. -/
theorem decoderTurnRunsSequence : Obligations.DecoderTurnRunsSequence := by
  intro s hturn hp hc
  have hbusy : s.afterEvent.phase ≠ .faulted := fun h => absurd (hp.symm.trans h) (by decide)
  refine ⟨_, runItems_blockSequence hbusy hc, ?_⟩
  rw [step_of_decoderTurn hturn hp, decodeBody_eq]
  rfl

end Sys2Proof.Machine
end

section
/-! SUPPORT. The faults and refusals of host operations (spec/60_exceptions.md R174-R179, R186): what each form of a
host operation does in each phase, and the form of every access. -/

namespace Sys2Proof.Machine

/-! ### The forms of a host operation, phase by phase -/

section Phases

variable {s : State}

theorem hostCommand_of_faulted (act : State → State) (h : s.phase = .faulted) : hostCommand act s = s.refuse :=
  if_pos h

theorem hostCommand_of_busy (act : State → State) (h : s.phase = .busy) :
    hostCommand act s = s.raise (.hostBusy 4) := by
  rcases hostCommand_cases act s with ⟨hp, -⟩ | ⟨-, e⟩ | ⟨hp, -⟩
  · cases h.symm.trans hp
  · exact e
  · rcases hp with hp | hp <;> cases h.symm.trans hp

theorem hostRead_of_faulted (addr v : Word) (ok always : Bool) (h : s.phase = .faulted) :
    hostRead addr ok always v s = if ok then s.returns v else s.refuse.returns 0 :=
  if_pos h

/-- A read that fails a check (R179). -/
theorem hostRead_of_bad (addr v : Word) (always : Bool) (h : s.phase ≠ .faulted) :
    hostRead addr false always v s = (s.raise (.badAccess addr)).returns 0 :=
  (if_neg h).trans (if_pos rfl)

/-- A read in BUSY, but of ID and STATUS (R178). -/
theorem hostRead_of_busy (addr v : Word) (h : s.phase = .busy) :
    hostRead addr true false v s = (s.raise (.hostBusy addr)).returns 0 := by
  rcases hostRead_cases addr true false v s with ⟨hp, -⟩ | ⟨hp, -⟩ | ⟨-, hok, -⟩ | ⟨-, -, -, e⟩ | ⟨-, -, hno, -⟩
  · cases h.symm.trans hp
  · cases h.symm.trans hp
  · cases hok
  · exact e
  · cases hno h

theorem hostWrite_of_faulted (addr : Word) (ok locked : Bool) (store : State → State) (h : s.phase = .faulted) :
    hostWrite addr ok locked store s = s.refuse :=
  if_pos h

/-- A write that fails a check (R179). -/
theorem hostWrite_of_bad (addr : Word) (locked : Bool) (store : State → State) (h : s.phase ≠ .faulted) :
    hostWrite addr false locked store s = s.raise (.badAccess addr) :=
  (if_neg h).trans (if_pos rfl)

/-- A write in BUSY (R178). -/
theorem hostWrite_of_busy (addr : Word) (locked : Bool) (store : State → State) (h : s.phase = .busy) :
    hostWrite addr true locked store s = s.raise (.hostBusy addr) := by
  rcases hostWrite_cases addr true locked store s with ⟨hp, -⟩ | ⟨-, hok, -⟩ | ⟨-, -, e⟩ | ⟨hp, -⟩ | ⟨hp, -⟩
  · cases h.symm.trans hp
  · cases hok
  · exact e
  · cases h.symm.trans hp
  · rcases hp with hp | ⟨hp, -⟩ <;> cases h.symm.trans hp

/-- A locked write in CONFIGURED (R177). -/
theorem hostWrite_of_locked (addr : Word) (store : State → State) (h : s.phase = .configured) :
    hostWrite addr true true store s = s.raise (.configLocked addr) := by
  rcases hostWrite_cases addr true true store s with ⟨hp, -⟩ | ⟨-, hok, -⟩ | ⟨hp, -⟩ | ⟨-, -, -, e⟩ | ⟨hp, -⟩
  · cases h.symm.trans hp
  · cases hok
  · cases h.symm.trans hp
  · exact e
  · rcases hp with hp | ⟨-, hno⟩
    · cases h.symm.trans hp
    · cases hno

end Phases

/-! ### Commands and locked writes -/

/-- A command word with bits[31:8] not 0 or OP above 4 is above 4. -/
theorem reservedWord_of_fields {x : Word} (h : x >>> 8 ≠ 0 ∨ 4 < x.toNat % 256) : reservedWord x = true := by
  refine decide_eq_true ?_
  by_contra hle
  rcases h with hhigh | hop
  · refine hhigh (BitVec.eq_of_toNat_eq ?_)
    rw [BitVec.toNat_ushiftRight, Nat.shiftRight_eq_div_pow]
    exact Nat.div_eq_of_lt (by omega)
  · omega

/-- Settles O8: a reserved word is above 4, and its action is the fault. -/
theorem reservedCommandFaults : Obligations.ReservedCommandFaults := by
  intro x s hready
  refine ⟨fun hx => ?_, congrArg Host.Outcome.next (hostCommand_of_ready _ hready)⟩
  exact (decode_cmdSource x).trans (decodeCommand_of_reserved (reservedWord_of_fields hx))

theorem exec_regWrite_locked {r : Reg} (hr : r.config = true) (v : Word) {s : State} (h : s.phase = .configured) :
    exec (.regWrite r v) s = .next (s.raise (.configLocked r.addr)) := by
  have hw : r.writable = true := by rw [Reg.writable, hr, Bool.true_or]
  rw [exec, execRegWrite, hw, hr, hostWrite_of_locked _ _ h]

/-- Settles O12: the twelve registers are config registers, and their writes, those of ATH and CIPHER and CONFIGURE are
locked in CONFIGURED. -/
theorem configurationIsLocked : Obligations.ConfigurationIsLocked := by
  intro s hp
  have hconfig : ∀ r ∈ [Reg.channels, .blockSize, .r01, .r02, .r03, .r04, .r05, .r06, .r07, .r08, .volume,
      .pcmFormat], r.config = true := by decide
  refine ⟨fun r hr v => exec_regWrite_locked (hconfig r hr) v hp,
    fun _ _ => congrArg Host.Outcome.next (hostWrite_of_locked _ _ hp),
    fun _ _ => congrArg Host.Outcome.next (hostWrite_of_locked _ _ hp), ?_⟩
  rw [exec, execConfigure, hostCommand_of_ready _ (.inr hp), if_neg (by rw [hp]; decide)]
  rfl

/-- Settles O13: DECODE_BLOCK acts in both phases, and its action asks which of the two it is. -/
theorem decodeBlockAcceptance : Obligations.DecodeBlockAcceptance := by
  intro s
  refine ⟨fun hp => ?_, fun hp => ?_⟩
  · rw [exec, execDecodeBlock, hostCommand_of_ready _ (.inr hp), if_neg (by rw [hp]; decide)]
  · rw [exec, execDecodeBlock, hostCommand_of_ready _ (.inl hp), if_pos hp]
    rfl

/-! ### The form of every access -/

/-- What the instruction `i` of an access does is RESET or one of the three forms of a host operation, at the address of
the access and with the result of the checks of R169 step (2). -/
inductive AccessForm (a : Access) (i : Instr) : Prop
  | reset (ha : IsReset a) (hi : i = .reset)
  | read (hdir : a.dir = .read) (always : Bool) (value : State → Word)
      (halways : always = true → a.addr = 4 * 0x00 ∨ a.addr = 4 * 0x02)
      (hexec : ∀ s, exec i s = .next (hostRead a.addr (!a.bad) always (value s) s))
  | write {v : Word} (hdir : a.dir = .write v) (locked : Bool) (store : State → State)
      (hexec : ∀ s, exec i s = .next (hostWrite a.addr (!a.bad) locked store s))
  | command {v : Word} (hdir : a.dir = .write v) (haddr : a.addr = 4) (hok : a.bad = false) (act : State → State)
      (hexec : ∀ s, exec i s = .next (hostCommand act s))

section Forms

variable {a : Access}

/-- A bad access is a read or a write that fails a check. -/
theorem accessForm_badAccess (h : a.bad = true) : AccessForm a (.badAccess a) := by
  cases hdir : a.dir with
  | read => exact .read hdir false (fun _ => 0) nofun fun s => by rw [exec, execBadAccess, hdir, h]; rfl
  | write v => exact .write hdir false id fun s => by rw [exec, execBadAccess, hdir, h]; rfl

/-- A write to CMD is RESET, or a command word that acts where HCADEC accepts it. -/
theorem accessForm_decodeCommand {x : Word} (ht : target a.addr.toNat a.width = some (.reg .cmd))
    (hdir : a.dir = .write x) : AccessForm a (decodeCommand x) := by
  have hok : a.bad = false := by rw [Access.bad, ht, hdir]; rfl
  have ha : accessOf (.reg .cmd) (.write x) = a := accessOf_of_target ht hdir
  have haddr : a.addr = 4 := (congrArg Access.addr ha).symm
  unfold decodeCommand
  split
  case h_2 hx =>
    obtain rfl : x = 1 := BitVec.eq_of_toNat_eq hx
    exact .reset ha.symm rfl
  all_goals exact .command hdir haddr hok _ fun _ => rfl

/-- A read of a target that can be read. -/
theorem accessForm_read {t : Target} (ht : target a.addr.toNat a.width = some t) (hdir : a.dir = .read)
    (h : ∀ r, t = .reg r → r.readable = true) : AccessForm a (readInstr t) := by
  have hok : a.bad = false := by
    rw [Access.bad, ht, hdir]
    cases t with
    | reg r => exact congrArg (!·) (h r rfl)
    | _ => rfl
  obtain rfl := accessOf_of_target ht hdir
  cases t with
  | reg r =>
    refine .read hdir r.readableBusy (fun s => s.reg r) (fun hbusy => ?_) fun s => by
      rw [hok, readInstr, exec, execRegRead, h r rfl]; rfl
    cases r <;> cases hbusy
    · exact .inl rfl
    · exact .inr rfl
  | ath | cipher | blockbuf | pcmbuf =>
    exact .read hdir false _ nofun fun s => by rw [hok]; rfl

/-- Every access has the form of its direction. -/
theorem accessForm_decode (a : Access) : AccessForm a (decode (.access a)) := by
  change AccessForm a (decodeAccess a)
  unfold decodeAccess
  split
  case h_1 ht => exact accessForm_badAccess (by rw [Access.bad, ht])
  case h_2 x ht hdir => exact accessForm_decodeCommand ht hdir
  case h_3 r ht hdir =>
    split
    case isTrue hr => exact accessForm_read ht hdir (by rintro _ ⟨⟩; exact hr)
    case isFalse hr => exact accessForm_badAccess (by simp [Access.bad, ht, hdir, hr])
  case h_4 r v hcmd ht hdir =>
    split
    case isTrue hr =>
      have hok : a.bad = false := by simp [Access.bad, ht, hdir, hr]
      obtain rfl := accessOf_of_target ht hdir
      exact .write hdir r.config (fun s => s.setReg r v) fun s => by rw [hok, exec, execRegWrite, hr]; rfl
    case isFalse hr =>
      have hne : r ≠ .cmd := hcmd
      exact accessForm_badAccess (by simp [Access.bad, ht, hdir, hr, hne])
  case h_5 ht hdir | h_7 ht hdir | h_9 ht hdir | h_11 ht hdir => exact accessForm_read ht hdir nofun
  case h_6 ht hdir | h_8 ht hdir | h_10 ht hdir =>
    have hok : a.bad = false := by rw [Access.bad, ht, hdir]
    obtain rfl := accessOf_of_target ht hdir
    exact .write hdir _ _ fun s => by rw [hok]; rfl
  case h_12 ht hdir => exact accessForm_badAccess (by rw [Access.bad, ht, hdir])

end Forms

/-! ### BadAccess, HostBusy and refusal -/

theorem faultedBy_of_read {a : Access} (h : a.dir = .read) (s : State) (c : Cause) :
    s.faultedBy a c.code c.info = (s.raise c).returns 0 := by
  rw [State.faultedBy, h]
  rfl

theorem faultedBy_of_write {a : Access} {v : Word} (h : a.dir = .write v) (s : State) (c : Cause) :
    s.faultedBy a c.code c.info = s.raise c := by
  rw [State.faultedBy, h]
  rfl

/-- Settles O15: the checks are the decoder's, and a bad access is a read or a write that fails them. -/
theorem badAccessFaults : Obligations.BadAccessFaults := by
  intro s a hp hfails
  have hdecode : decode (.access a) = .badAccess a := decodeAccess_bad ((failsChecks_iff a).mp hfails)
  refine ⟨hdecode, ?_⟩
  cases hdir : a.dir with
  | read =>
    rw [exec, execBadAccess, hdir]
    exact congrArg Host.Outcome.next
      ((hostRead_of_bad a.addr 0 false hp).trans (faultedBy_of_read hdir s (.badAccess a.addr)).symm)
  | write v =>
    rw [exec, execBadAccess, hdir]
    exact congrArg Host.Outcome.next
      ((hostWrite_of_bad a.addr false id hp).trans (faultedBy_of_write hdir s (.badAccess a.addr)).symm)

/-- Settles O14: each form of an access raises HostBusy in BUSY. -/
theorem accessInBusyFaults : Obligations.AccessInBusyFaults := by
  intro s a hp hpasses hreset hno
  have hok : a.bad = false := by rwa [failsChecks_iff, Bool.not_eq_true] at hpasses
  cases accessForm_decode a with
  | reset ha => exact absurd ha hreset
  | read hdir always value halways hexec =>
    have hnot : always = false := by
      by_contra hne
      exact hno ⟨hdir, halways (by simpa using hne)⟩
    rw [hexec, hok, hnot]
    exact congrArg Host.Outcome.next
      ((hostRead_of_busy a.addr _ hp).trans (faultedBy_of_read hdir s (.hostBusy a.addr)).symm)
  | write hdir locked store hexec =>
    rw [hexec, hok]
    exact congrArg Host.Outcome.next
      ((hostWrite_of_busy a.addr locked store hp).trans (faultedBy_of_write hdir s (.hostBusy a.addr)).symm)
  | command hdir haddr _ act hexec =>
    rw [hexec, haddr]
    exact congrArg Host.Outcome.next
      ((hostCommand_of_busy act hp).trans (faultedBy_of_write hdir s (.hostBusy 4)).symm)

/-- Settles O16: in FAULTED a read passes if it passes the checks, and the other forms of an access are refused. -/
theorem faultedRefusesAccesses : Obligations.FaultedRefusesAccesses := by
  intro s a hp hrefused
  rw [failsChecks_iff] at hrefused
  cases accessForm_decode a with
  | reset ha =>
    have hok : a.bad = false := by rw [ha]; rfl
    rcases hrefused with hbad | ⟨-, hreset⟩
    · cases hok.symm.trans hbad
    · exact absurd ha hreset
  | read hdir always value _ hexec =>
    have hbad : a.bad = true := hrefused.resolve_right fun h => h.1 hdir
    rw [hexec, hbad, hdir, hostRead_of_faulted _ _ _ _ hp]
    rfl
  | write hdir locked store hexec =>
    rw [hexec, hdir, hostWrite_of_faulted _ _ _ _ hp]
    rfl
  | command hdir _ _ act hexec =>
    rw [hexec, hdir, hostCommand_of_faulted act hp]
    rfl

/-! ### FAULTED until RESET -/

/-- Only REFUSED, which is not cleared, and the host's side of the bus may have changed. -/
def RefusedOnly (s t : State) : Prop :=
  { t with refused := s.refused, port := s.port } = s ∧ (s.refused = true → t.refused = true)

/-- Taking the next event is the host's side of the bus. -/
theorem RefusedOnly.of_afterEvent {s t : State} (h : RefusedOnly s.afterEvent t) : RefusedOnly s t := by
  obtain ⟨hframe, hkeeps⟩ := h
  exact ⟨(congrArg (fun u : State => ({ u with port := s.port } : State)) hframe :), hkeeps⟩

/-- In FAULTED an access other than RESET changes nothing but REFUSED and the host's side of the bus. -/
theorem refusedOnly_of_access {s t : State} {a : Access} (hp : s.phase = .faulted)
    (hne : decode (.access a) ≠ .reset) (h : exec (decode (.access a)) s = .next t) : RefusedOnly s t := by
  cases accessForm_decode a with
  | reset _ hi => exact absurd hi hne
  | read _ always value _ hexec =>
    rw [hexec, hostRead_of_faulted _ _ _ _ hp] at h
    cases h
    split
    · exact ⟨rfl, id⟩
    · exact ⟨rfl, fun _ => rfl⟩
  | write _ locked store hexec =>
    rw [hexec, hostWrite_of_faulted _ _ _ _ hp] at h
    cases h
    exact ⟨rfl, fun _ => rfl⟩
  | command _ _ _ act hexec =>
    rw [hexec, hostCommand_of_faulted act hp] at h
    cases h
    exact ⟨rfl, fun _ => rfl⟩

/-- Settles O56: the next event is RESET, another access, or the decoder's turn, which does nothing in FAULTED. -/
theorem faultedUntilReset : Obligations.FaultedUntilReset := by
  intro s t hp hstep
  have hbusy : s.phase ≠ .busy := by rw [hp]; decide
  have hturn (hd : s.DecoderTurn) : RefusedOnly s t := by
    obtain ⟨-, hnothing⟩ := stepRunsDecodedAccess s
    cases (hnothing hd hbusy).symm.trans hstep
    exact ⟨rfl, id⟩
  cases hin : s.port.inbox with
  | nil => exact .inr (hturn (.inl hin))
  | cons e rest =>
    cases e with
    | decoder => exact .inr (hturn (.inr ⟨rest, hin⟩))
    | access a =>
      have hexec := (step_of_access hin).symm.trans hstep
      by_cases hreset : decode (.access a) = .reset
      · rw [hreset] at hexec
        cases hexec
        exact .inl ⟨by rw [State.nextInstr, hin, ← hreset], rfl⟩
      · exact .inr (refusedOnly_of_access (s := s.afterEvent) hp hreset hexec).of_afterEvent

/-! ### The fault record -/

section Record

variable {s t : State}

theorem faultRecord_raise (s : State) (c : Cause) : (s.raise c).FaultRecord :=
  ⟨⟨fun _ => c.code_range.1, fun _ => rfl⟩, c.code_range.2, fun h0 => absurd h0 c.code_range.1, fun _ => rfl⟩

/-- A refusal is a record of its own, which FAULTED allows. -/
theorem State.FaultRecord.refuse (h : s.FaultRecord) (hp : s.phase = .faulted) : s.refuse.FaultRecord := by
  obtain ⟨hcode, hrange, hinfo, -⟩ := h
  exact ⟨hcode, hrange, hinfo, fun _ => hp⟩

theorem State.FaultRecord.hostEffect (h : s.FaultRecord) (he : HostEffect s t) : t.FaultRecord := by
  cases he with
  | reset => exact (good_resetAll s).faultRecord
  | configured hp hc =>
    rw [opConfigure_eq hc]
    exact h.of_clear (by rw [hp]; decide) nofun rfl rfl rfl
  | started hp => exact h.of_clear (by rw [hp]; decide) nofun rfl rfl rfl
  | raised _ c => exact faultRecord_raise s c
  | refused hp => exact h.refuse hp
  | regStored r => cases r <;> exact h
  | acknowledged | byteStored | unchanged => exact h

theorem State.FaultRecord.decoderStep (h : s.FaultRecord) (p : Config.Params) :
    (decoderStep p s).FaultRecord := by
  rcases decoderStep_cases p s with ⟨-, e⟩ | ⟨hp, e⟩ <;> rw [e]
  · exact h
  · have hne : s.phase ≠ .faulted := by rw [hp]; decide
    exact (bodyOutcome_decodeBody p hne).faultRecord h hne

end Record

/-- Settles O52: the effects of a host access and the decoder's turn each keep the record. -/
theorem stepKeepsFaultRecord : Obligations.StepKeepsFaultRecord := by
  intro s t h hstep
  have hafter : s.afterEvent.FaultRecord := h
  rcases step_effect hstep with he | rfl
  · exact hafter.hostEffect he
  · exact hafter.decoderStep _

end Sys2Proof.Machine
end

section
/-! SUPPORT. PCM_OUT and the first NaN (spec/45_pcm.md R150, R152, spec/60_exceptions.md R183): the samples come in the
order sf, j, ch, so those before the first NaN in the run are those before it in that order. -/

namespace Sys2Proof.Machine

/-- One sample comes before another in the order sf, j, ch. -/
def SampleBefore (x y : Nat × Nat × Nat) : Prop :=
  x.1 < y.1 ∨ (x.1 = y.1 ∧ (x.2.1 < y.2.1 ∨ (x.2.1 = y.2.1 ∧ x.2.2 < y.2.2)))

/-- The run of PCM_OUT goes through the samples in the order sf, j, ch. -/
theorem pairwise_sampleOrder (c : Nat) : (sampleOrder c).Pairwise SampleBefore := by
  have hchannels (sf j : Nat) : ((List.range c).map fun ch => (sf, j, ch)).Pairwise SampleBefore :=
    List.pairwise_map.mpr (List.pairwise_lt_range.imp fun hch => .inr ⟨rfl, .inr ⟨rfl, hch⟩⟩)
  refine List.pairwise_flatMap.mpr ⟨fun sf _ => ?_, List.pairwise_lt_range.imp fun hsf x hx y hy => ?_⟩
  · refine List.pairwise_flatMap.mpr ⟨fun j _ => hchannels sf j, List.pairwise_lt_range.imp fun hj x hx y hy => ?_⟩
    obtain ⟨_, -, rfl⟩ := List.mem_map.mp hx
    obtain ⟨_, -, rfl⟩ := List.mem_map.mp hy
    exact .inr ⟨rfl, .inl hj⟩
  · simp only [List.mem_flatMap, List.mem_map] at hx hy
    obtain ⟨_, -, _, -, rfl⟩ := hx
    obtain ⟨_, -, _, -, rfl⟩ := hy
    exact .inl hsf

/-- A run whose first NaN is known ends in its fault. -/
theorem pcmRun_first_nan {s : State} {sf j ch : Nat} (hnan : fIsNaN (fmul (s.wave ch sf j) s.volume) = true)
    (c : Nat) {l : List (Nat × Nat × Nat)} (rest : List (Nat × Nat × Nat))
    (hbefore : ∀ sf' j' ch', (sf', j', ch') ∈ l → fIsNaN (fmul (s.wave ch' sf' j') s.volume) = false)
    (p : Cells 32) : pcmRun s c (l ++ (sf, j, ch) :: rest) p = .error (.nonFiniteSample ch sf j) := by
  induction l generalizing p with
  | nil => rw [List.nil_append, pcmRun, sampleWord, if_pos hnan]
  | cons x l ih =>
    obtain ⟨sf', j', ch'⟩ := x
    rw [List.cons_append, pcmRun, sampleWord_of_not_nan _ (hbefore sf' j' ch' List.mem_cons_self)]
    exact ih (fun sf j ch hmem => hbefore sf j ch (List.mem_cons_of_mem _ hmem)) _

/-- The information word of NonFiniteSample (R183): the fields do not overlap. -/
theorem nonFiniteSample_info_eq (ch : Nat) {sf j : Nat} (hsf : sf < 8) (hj : j < 128) :
    (Cause.nonFiniteSample ch sf j).info = BitVec.ofNat 32 (65536 * ch + 256 * sf + j) := by
  have hlow : sf <<< 8 ||| j = 256 * sf + j := shiftLeft_or_index sf ⟨j, hj⟩
  rw [Cause.info, Nat.or_assoc, hlow, ← Nat.shiftLeft_add_eq_or_of_lt (by omega), Nat.shiftLeft_eq]
  congr 1
  omega

/-- Settles O49: the samples before the first NaN in the run come before it in the order, so none of them is a NaN. -/
theorem pcmOutFaultsOnTheFirstNaN : Obligations.PcmOutFaultsOnTheFirstNaN := by
  intro s sf j ch _ hsf hj hch hnan hfirst
  have hmem : (sf, j, ch) ∈ sampleOrder s.channels.toNat := mem_sampleOrder_iff.mpr ⟨hsf, hj, hch⟩
  obtain ⟨l, rest, hsplit⟩ := List.append_of_mem hmem
  have horder := pairwise_sampleOrder s.channels.toNat
  rw [hsplit, List.pairwise_append] at horder
  obtain ⟨-, -, hbefore⟩ := horder
  have hrun := pcmRun_first_nan hnan s.channels.toNat rest (l := l) (fun sf' j' ch' hl => by
    have hmem' : (sf', j', ch') ∈ sampleOrder s.channels.toNat := hsplit ▸ List.mem_append_left _ hl
    obtain ⟨hsf', hj', hch'⟩ := mem_sampleOrder_iff.mp hmem'
    exact hfirst sf' j' ch' hsf' hj' hch' (hbefore _ hl _ List.mem_cons_self)) s.pcm
  rw [← hsplit] at hrun
  rw [exec, execPcmOut, pcmOut_of_error hrun, State.raise, nonFiniteSample_info_eq ch hsf hj]
  rfl

end Sys2Proof.Machine
end

section
/-! SUPPORT. The state after power-on reset (spec/70_reset_and_hazards.md R197, R198). -/

namespace Sys2Proof.Machine

/-- RESET leaves the reset state as it is. -/
theorem reset_resetAll : State.reset.resetAll = State.reset := rfl

/-- Settles O50: RESET makes every state good, and it makes the reset state of the reset state. -/
theorem resetIsGood : Obligations.ResetIsGood := by
  have hgood : State.reset.resetAll.Good := good_resetAll State.reset
  rwa [reset_resetAll] at hgood

end Sys2Proof.Machine
end
